-- ==== Sys2Proof/Word.lean ====
section
/-! DEFINITION. The word types of the LDPC17491 ports and the fixed sizes of the code.

A command is one 64-bit integer with an operand field A of 24 bits and a data field D of 32 bits
(`30_encoding.md` rule R70), a response is one 40-bit integer (rule R72). A codeword, payload,
checksum or syndrome is a *sequence* of bits; it is held as a `BitVec` whose bit `i` is the
sequence element `i` (`00_scope.md` rule R8). -/

namespace Sys2Proof

/-- A command word: `OP<<56 | A<<32 | D` (rule R70). -/
abbrev CommandWord := BitVec 64

/-- The address or index operand of a command, bits 55:32 of its word (rule R70). -/
abbrev AField := BitVec 24

/-- The data operand of a command, bits 31:0 of its word (rule R70). -/
abbrev DField := BitVec 32

/-- A response word: `RC<<32 | RDATA` (rule R72). -/
abbrev ResponseWord := BitVec 40

/-- A sequence of 174 codeword bits; bit `i` is element `i` (rules R8, R12). -/
abbrev Codeword := BitVec 174

/-- A sequence of 77 payload bits (rules R8, R13). -/
abbrev Payload := BitVec 77

/-- A sequence of 14 checksum bits (rules R8, R140). -/
abbrev Checksum := BitVec 14

/-- A sequence of 83 parity results (rules R8, R14). -/
abbrev Syndrome := BitVec 83

/-- One signed integer per codeword bit: the register files L and TOT (rules R17, R20). -/
abbrev BitFile := Vector Int 174

/-- Three signed integers per codeword bit: the message files Q and R (rules R18, R19). -/
abbrev MessageFile := Vector (Vector Int 3) 174

end Sys2Proof
end

