-- ==== Sys2Proof/Machine/Bits.lean ====
section
/-! DEFINITION. Bit sequences and their packing into 32-bit port words (`20_memory.md` rules R52,
R53, `00_scope.md` rule R8): element `32w + i` of a sequence is bit `i` of its word `w`, least
significant first. -/

namespace Sys2Proof.Machine

/-- The sequence of `n` bits whose element `i` is `f i` (rule R8). -/
def bitSeq (n : Nat) (f : Nat → Bool) : BitVec n := BitVec.ofFnLE fun i : Fin n => f i.val

/-- Word `w` of a sequence, zero where the sequence has ended (rule R52). -/
def seqWord {n : Nat} (v : BitVec n) (w : Nat) : BitVec 32 := (v >>> (32 * w)).setWidth 32

/-- The codeword register after its word `w` is written with `d`: elements `32w` to `32w + 31`
become the bits of `d`, as far as the sequence goes (rules R52, R130). -/
def writeCodewordWord (cw : Codeword) (w : Nat) (d : DField) : Codeword :=
  bitSeq 174 fun i => if i / 32 = w then d.getLsbD (i % 32) else cw.getLsbD i

/-- The number of 1 elements of a sequence (rule R8). -/
def popcount {n : Nat} (v : BitVec n) : Nat := (List.range n).countP fun i => v.getLsbD i

/-- `zext_32` of a single bit (rule R8). -/
def zextBit (x : Bool) : BitVec 32 := (BitVec.ofBool x).setWidth 32

/-- `sext_32`: the 32-bit two's complement pattern of an integer (rule R8). -/
def sext32 (v : Int) : BitVec 32 := BitVec.ofInt 32 v

/-- The payload part of a codeword, elements 0 to 76 (`43_payload.md` rule R140). -/
def payloadOf (cw : Codeword) : Payload := cw.extractLsb' 0 77

/-- The transmitted checksum of a codeword, elements 77 to 90 (rule R140). -/
def checksumOf (cw : Codeword) : Checksum := cw.extractLsb' 77 14

end Sys2Proof.Machine
end

