-- ==== Sys2Proof/Syntax.lean ====
section
/-! DEFINITION. The 20 commands, one constructor per row of `spec/opcode_table.json`
(`30_encoding.md` rules R70, R71, R75), and the assembler's pseudo-instructions (rule R80).

The opcode alone selects a command (rule R75: the table's mask tests OP only); the fields A and D
are carried whole, also where the command's format does not use them, because a nonzero unused
field is not ignored: it is refused (rules R71, R78). -/

namespace Sys2Proof

/-- A command: its opcode's name with the fields A and D of its word. The letter after the
mnemonic is the format of rule R71, which says which of the two fields the command uses. -/
inductive Instr where
  /-- NOP, format Z: do nothing (rule R150). -/
  | nop (a : AField) (d : DField)
  /-- CLR, format Z: make the context fresh (rule R151). -/
  | clr (a : AField) (d : DField)
  /-- GCHK, format Z: run the graph construction check (rule R90). -/
  | gchk (a : AField) (d : DField)
  /-- SETIT, format D: set MAXITER to D (rule R103). -/
  | setit (a : AField) (d : DField)
  /-- LLRP, format D: push one binary32 LLR (rule R100). -/
  | llrp (a : AField) (d : DField)
  /-- DEC, format Z: run one decode attempt (rule R104). -/
  | dec (a : AField) (d : DField)
  /-- CWW, format AD: write word A of the codeword register with D (rule R130). -/
  | cww (a : AField) (d : DField)
  /-- SYN, format Z: run the SyndromeChecker (rule R132). -/
  | syn (a : AField) (d : DField)
  /-- PAY, format Z: run the PayloadValidator (rule R142). -/
  | pay (a : AField) (d : DField)
  /-- RDST, format Z: read STATUS (rule R152). -/
  | rdst (a : AField) (d : DField)
  /-- RDIT, format Z: read the iteration count and the budget (rule R153). -/
  | rdit (a : AField) (d : DField)
  /-- RDCW, format A: read word A of the codeword register (rule R133). -/
  | rdcw (a : AField) (d : DField)
  /-- RDPL, format A: read word A of the payload register (rule R143). -/
  | rdpl (a : AField) (d : DField)
  /-- RDSY, format A: read word A of the syndrome register (rule R134). -/
  | rdsy (a : AField) (d : DField)
  /-- RDLLR, format A: read the quantised LLR of bit A (rule R154). -/
  | rdllr (a : AField) (d : DField)
  /-- RDTOT, format A: read the total belief of bit A (rule R155). -/
  | rdtot (a : AField) (d : DField)
  /-- RDMSG, format A: read one edge message, A = dir, j, b packed (rules R54, R156). -/
  | rdmsg (a : AField) (d : DField)
  /-- CHKOF, format A: the three checks of bit A (rule R91). -/
  | chkof (a : AField) (d : DField)
  /-- BITOF, format A: the bits of a check, A = w, c packed (rules R54, R92). -/
  | bitof (a : AField) (d : DField)
  /-- ROMRD, format A: the raw table entry at ROM address A (rule R93). -/
  | romrd (a : AField) (d : DField)
  deriving DecidableEq, Repr

/-- The A field a command carries. -/
def Instr.a : Instr → AField
  | .nop a _ | .clr a _ | .gchk a _ | .setit a _ | .llrp a _ | .dec a _ | .cww a _ | .syn a _
  | .pay a _ | .rdst a _ | .rdit a _ | .rdcw a _ | .rdpl a _ | .rdsy a _ | .rdllr a _
  | .rdtot a _ | .rdmsg a _ | .chkof a _ | .bitof a _ | .romrd a _ => a

/-- The D field a command carries. -/
def Instr.d : Instr → DField
  | .nop _ d | .clr _ d | .gchk _ d | .setit _ d | .llrp _ d | .dec _ d | .cww _ d | .syn _ d
  | .pay _ d | .rdst _ d | .rdit _ d | .rdcw _ d | .rdpl _ d | .rdsy _ d | .rdllr _ d
  | .rdtot _ d | .rdmsg _ d | .chkof _ d | .bitof _ d | .romrd _ d => d

/-- The four commands a context with GFAIL = 1 still runs (rule R173). -/
def Instr.runsOnBadGraph : Instr → Bool
  | .nop _ _ | .rdst _ _ | .romrd _ _ | .gchk _ _ => true
  | .clr _ _ | .setit _ _ | .llrp _ _ | .dec _ _ | .cww _ _ | .syn _ _ | .pay _ _ | .rdit _ _
  | .rdcw _ _ | .rdpl _ _ | .rdsy _ _ | .rdllr _ _ | .rdtot _ _ | .rdmsg _ _ | .chkof _ _
  | .bitof _ _ => false

/-- The assembler's pseudo-instructions (rule R80). -/
inductive Pseudo where
  /-- `CWLD w0, …, w5`: load the whole codeword register. -/
  | cwld (w0 w1 w2 w3 w4 w5 : DField)
  /-- `LLRN n, d`: push `n` copies of `d`. -/
  | llrn (n : Nat) (d : DField)
  /-- `LLRV d0, d1, …`: push a list of values in order. -/
  | llrv (ds : List DField)
  deriving DecidableEq, Repr

/-- The commands a pseudo-instruction stands for, in order (rule R80). -/
def Pseudo.expand : Pseudo → List Instr
  | .cwld w0 w1 w2 w3 w4 w5 =>
      [.cww 0 w0, .cww 1 w1, .cww 2 w2, .cww 3 w3, .cww 4 w4, .cww 5 w5]
  | .llrn n d => List.replicate n (.llrp 0 d)
  | .llrv ds => ds.map fun d => .llrp 0 d

end Sys2Proof
end

