-- ==== Sys2Proof/WellFormed.lean ====
section
/-! DEFINITION. Which commands are well formed: the complement of the table "ERR_OPERAND when" of
`60_exceptions.md` rule R175, written from that table with the fields as unsigned integers. The
machine does not call this file: its own checks 3 and 4 (rule R172) are in `Machine/Operands.lean`,
written from the formats and sub-fields of rules R71 and R74. -/

namespace Sys2Proof

/-- The condition of rule R175's table under which a command is malformed. -/
def Instr.operandError : Instr → Bool
  | .nop a d | .clr a d | .gchk a d | .dec a d | .syn a d | .pay a d | .rdst a d | .rdit a d =>
      a.toNat != 0 || d.toNat != 0
  | .setit a d => a.toNat != 0 || d.toNat == 0 || decide (255 < d.toNat)
  | .llrp a _ => a.toNat != 0
  | .cww a d => decide (5 < a.toNat) || (a.toNat == 5 && d.toNat / 2 ^ 14 != 0)
  | .rdcw a d => d.toNat != 0 || decide (5 < a.toNat)
  | .rdpl a d | .rdsy a d => d.toNat != 0 || decide (2 < a.toNat)
  | .rdllr a d | .rdtot a d | .chkof a d => d.toNat != 0 || decide (173 < a.toNat)
  | .rdmsg a d =>
      d.toNat != 0 || a.toNat / 2 ^ 11 != 0 || decide (173 < a.toNat % 2 ^ 8)
        || a.toNat / 2 ^ 8 % 4 == 3
  | .bitof a d => d.toNat != 0 || a.toNat / 2 ^ 9 != 0 || decide (82 < a.toNat % 2 ^ 8)
  | .romrd a d =>
      d.toNat != 0
        || !(decide (a.toNat ≤ 0x244) || (decide (0x400 ≤ a.toNat) && decide (a.toNat ≤ 0x609)))

/-- A command is well formed when rule R175 gives no reason to refuse it. -/
def Instr.wellFormed (i : Instr) : Bool := !i.operandError

end Sys2Proof
end

