-- ==== Sys2Proof/Decode.lean ====
section
/-! DEFINITION. The command decoder and encoder (`30_encoding.md` rules R70, R74 to R78, R81).

Decoding looks at OP only, as the table's mask does: every word whose OP is assigned is that
command, with its fields A and D as they stand; every other word is rejected by name. The legality
of the fields is checked by the command itself, after GFAIL (rule R172). -/

namespace Sys2Proof

/-- Field OP of a command word, `word[63:56]` (rule R70). -/
def fieldOp (w : CommandWord) : BitVec 8 := w.extractLsb' 56 8

/-- Field A of a command word, `word[55:32]` (rules R70, R74). -/
def fieldA (w : CommandWord) : AField := w.extractLsb' 32 24

/-- Field D of a command word, `word[31:0]` (rules R70, R74). -/
def fieldD (w : CommandWord) : DField := w.extractLsb' 0 32

/-- Why a word is no command: its OP is one of the 236 unassigned values (rule R77). -/
inductive DecodeError where
  /-- `unassignedOpcode op`: raised by `decode`; the machine then answers ERR_OPCODE or, while
  GFAIL = 1, ERR_GRAPH (rules R172, R174). Safe: the spec gives this outcome. -/
  | unassignedOpcode (op : BitVec 8)
  deriving DecidableEq, Repr

/-- The command a word is, by the opcode map of rule R75. -/
def decode (w : CommandWord) : Except DecodeError Instr :=
  let a := fieldA w
  let d := fieldD w
  match fieldOp w with
  | 0x00#8 => .ok (.nop a d)
  | 0x01#8 => .ok (.clr a d)
  | 0x02#8 => .ok (.gchk a d)
  | 0x03#8 => .ok (.setit a d)
  | 0x10#8 => .ok (.llrp a d)
  | 0x11#8 => .ok (.dec a d)
  | 0x12#8 => .ok (.cww a d)
  | 0x13#8 => .ok (.syn a d)
  | 0x14#8 => .ok (.pay a d)
  | 0x20#8 => .ok (.rdst a d)
  | 0x21#8 => .ok (.rdit a d)
  | 0x22#8 => .ok (.rdcw a d)
  | 0x23#8 => .ok (.rdpl a d)
  | 0x24#8 => .ok (.rdsy a d)
  | 0x25#8 => .ok (.rdllr a d)
  | 0x26#8 => .ok (.rdtot a d)
  | 0x27#8 => .ok (.rdmsg a d)
  | 0x30#8 => .ok (.chkof a d)
  | 0x31#8 => .ok (.bitof a d)
  | 0x32#8 => .ok (.romrd a d)
  | op => .error (.unassignedOpcode op)

/-- The opcode of a command (rule R75). -/
def Instr.opcode : Instr → BitVec 8
  | .nop _ _ => 0x00
  | .clr _ _ => 0x01
  | .gchk _ _ => 0x02
  | .setit _ _ => 0x03
  | .llrp _ _ => 0x10
  | .dec _ _ => 0x11
  | .cww _ _ => 0x12
  | .syn _ _ => 0x13
  | .pay _ _ => 0x14
  | .rdst _ _ => 0x20
  | .rdit _ _ => 0x21
  | .rdcw _ _ => 0x22
  | .rdpl _ _ => 0x23
  | .rdsy _ _ => 0x24
  | .rdllr _ _ => 0x25
  | .rdtot _ _ => 0x26
  | .rdmsg _ _ => 0x27
  | .chkof _ _ => 0x30
  | .bitof _ _ => 0x31
  | .romrd _ _ => 0x32

/-- The word of a command: `OP<<56 | A<<32 | D` (rule R70). -/
def encode (i : Instr) : CommandWord := i.opcode ++ i.a ++ i.d

/-- The A field of `RDMSG dir, b, j`: `dir<<10 | j<<8 | b` (rules R54, R79). -/
def packMessageIndex (dir : Bool) (b : BitVec 8) (j : BitVec 2) : AField :=
  0#13 ++ BitVec.ofBool dir ++ j ++ b

/-- The A field of `BITOF c, w`: `w<<8 | c` (rules R54, R79). -/
def packCheckIndex (c : BitVec 8) (w : Bool) : AField := 0#15 ++ BitVec.ofBool w ++ c

/-- The command the decoder reads from an instruction whose bits are `w`, numbered as
`spec/opcode_table.json` numbers them: one 64-bit word, bit 0 the least significant, every bit from
`nbits` up zero. The spec gives a command no serial form, so there is no byte order to apply (rule
R53). -/
def decodeTableWord (nbits w : Nat) : Option Instr :=
  match decode (BitVec.ofNat 64 (w % 2 ^ nbits)) with
  | .ok i => some i
  | .error _ => none

end Sys2Proof
end

