-- ==== Sys2Proof/Config.lean ====
section
/-! DEFINITION. What an implementation fixes: the three parameters the spec leaves OPEN
(`00_scope.md` rule R7) and the candidate values it prints for two of them.

* GRAPH, the contents of the graph ROM (decision D18): any pair of tables. It is a field of the
  machine's state that nothing writes, so a theorem about every state holds for every GRAPH; the
  candidate `Config.graphFT8` stands in the reset state (notes/assumptions/2.md).
* CHECKSUM, a total function from 77 to 14 bits (decision D19): the constant `Config.checksum` has
  no usable body, so nothing can be proved of its values (notes/assumptions/3.md).
* NCTX, the number of contexts (decision D28): `Config.nctx`, known only to be at least 1
  (notes/assumptions/1.md). -/

namespace Sys2Proof

/-- GRAPH = (NM_RAW, MN_RAW): 83 rows of 7 and 174 rows of 3 raw 8-bit entries, 1-based, with the
sentinel 0 (`20_memory.md` rules R41, R42, R44; decision D18). -/
structure GraphRom where
  /-- NM_RAW, the raw `checkToBits` table. -/
  nm : Vector (Vector (BitVec 8) 7) 83
  /-- MN_RAW, the raw `bitToChecks` table. -/
  mn : Vector (Vector (BitVec 8) 3) 174
  deriving DecidableEq, Repr

/-- Which checksum function the PayloadValidator of this hardware computes. The spec takes
CHECKSUM as an argument of the model; a state is plain data, so it holds which of the two the spec
knows of is built in (`43_payload.md` rules R144, R145). -/
inductive ChecksumUnit where
  /-- The function the governing protocol definition gives, which the spec does not print: the
  opaque `Config.checksum`. -/
  | platform
  /-- The candidate CRC14_FT8 of rule R145, from general knowledge. -/
  | crc14FT8
  deriving DecidableEq, Repr

/-- CHECKSUM (rule R144): total, stateless, otherwise unknown. DESIGN CHOICE, safe: a free
function (notes/assumptions/3.md). -/
opaque Config.checksum : Payload → Checksum

/-- One less than the number of contexts. -/
opaque Config.extraContexts : Nat

/-- NCTX ≥ 1, the number of contexts (rule R188). -/
def Config.nctx : Nat := Config.extraContexts + 1

/-- Rows 0 to 20 of NM_RAW as `20_memory.md` rule R62 prints them. -/
def Config.nmFT8_0 : List (Vector (BitVec 8) 7) :=
  [#v[4, 31, 59, 91, 92, 96, 153],
   #v[5, 32, 60, 93, 115, 146, 0],
   #v[6, 24, 61, 94, 122, 151, 0],
   #v[7, 33, 62, 95, 96, 143, 0],
   #v[8, 25, 63, 83, 93, 96, 148],
   #v[6, 32, 64, 97, 126, 138, 0],
   #v[5, 34, 65, 78, 98, 107, 154],
   #v[9, 35, 66, 99, 139, 146, 0],
   #v[10, 36, 67, 100, 107, 126, 0],
   #v[11, 37, 67, 87, 101, 139, 158],
   #v[12, 38, 68, 102, 105, 155, 0],
   #v[13, 39, 69, 103, 149, 162, 0],
   #v[8, 40, 70, 82, 104, 114, 145],
   #v[14, 41, 71, 88, 102, 123, 156],
   #v[15, 42, 59, 106, 123, 159, 0],
   #v[1, 33, 72, 106, 107, 157, 0],
   #v[16, 43, 73, 108, 141, 160, 0],
   #v[17, 37, 74, 81, 109, 131, 154],
   #v[11, 44, 75, 110, 121, 166, 0],
   #v[45, 55, 64, 111, 130, 161, 173],
   #v[8, 46, 71, 112, 119, 166, 0]]

/-- Rows 21 to 41 of NM_RAW as `20_memory.md` rule R62 prints them. -/
def Config.nmFT8_21 : List (Vector (BitVec 8) 7) :=
  [#v[18, 36, 76, 89, 113, 114, 143],
   #v[19, 38, 77, 104, 116, 163, 0],
   #v[20, 47, 70, 92, 138, 165, 0],
   #v[2, 48, 74, 113, 128, 160, 0],
   #v[21, 45, 78, 83, 117, 121, 151],
   #v[22, 47, 58, 118, 127, 164, 0],
   #v[16, 39, 62, 112, 134, 158, 0],
   #v[23, 43, 79, 120, 131, 145, 0],
   #v[19, 35, 59, 73, 110, 125, 161],
   #v[20, 36, 63, 94, 136, 161, 0],
   #v[14, 31, 79, 98, 132, 164, 0],
   #v[3, 44, 80, 124, 127, 169, 0],
   #v[19, 46, 81, 117, 135, 167, 0],
   #v[7, 49, 58, 90, 100, 105, 168],
   #v[12, 50, 61, 118, 119, 144, 0],
   #v[13, 51, 64, 114, 118, 157, 0],
   #v[24, 52, 76, 129, 148, 149, 0],
   #v[25, 53, 69, 90, 101, 130, 156],
   #v[20, 46, 65, 80, 120, 140, 170],
   #v[21, 54, 77, 100, 140, 171, 0],
   #v[35, 82, 133, 142, 171, 174, 0]]

/-- Rows 42 to 62 of NM_RAW as `20_memory.md` rule R62 prints them. -/
def Config.nmFT8_42 : List (Vector (BitVec 8) 7) :=
  [#v[14, 30, 83, 113, 125, 170, 0],
   #v[4, 29, 68, 120, 134, 173, 0],
   #v[1, 4, 52, 57, 86, 136, 152],
   #v[26, 51, 56, 91, 122, 137, 168],
   #v[52, 84, 110, 115, 145, 168, 0],
   #v[7, 50, 81, 99, 132, 173, 0],
   #v[23, 55, 67, 95, 172, 174, 0],
   #v[26, 41, 77, 109, 141, 148, 0],
   #v[2, 27, 41, 61, 62, 115, 133],
   #v[27, 40, 56, 124, 125, 126, 0],
   #v[18, 49, 55, 124, 141, 167, 0],
   #v[6, 33, 85, 108, 116, 156, 0],
   #v[28, 48, 70, 85, 105, 129, 158],
   #v[9, 54, 63, 131, 147, 155, 0],
   #v[22, 53, 68, 109, 121, 174, 0],
   #v[3, 13, 48, 78, 95, 123, 0],
   #v[31, 69, 133, 150, 155, 169, 0],
   #v[12, 43, 66, 89, 97, 135, 159],
   #v[5, 39, 75, 102, 136, 167, 0],
   #v[2, 54, 86, 101, 135, 164, 0],
   #v[15, 56, 87, 108, 119, 171, 0]]

/-- Rows 63 to 82 of NM_RAW as `20_memory.md` rule R62 prints them. -/
def Config.nmFT8_63 : List (Vector (BitVec 8) 7) :=
  [#v[10, 44, 82, 91, 111, 144, 149],
   #v[23, 34, 71, 94, 127, 153, 0],
   #v[11, 49, 88, 92, 142, 157, 0],
   #v[29, 34, 87, 97, 147, 162, 0],
   #v[30, 50, 60, 86, 137, 142, 162],
   #v[10, 53, 66, 84, 112, 128, 165],
   #v[22, 57, 85, 93, 140, 159, 0],
   #v[28, 32, 72, 103, 132, 166, 0],
   #v[28, 29, 84, 88, 117, 143, 150],
   #v[1, 26, 45, 80, 128, 147, 0],
   #v[17, 27, 89, 103, 116, 153, 0],
   #v[51, 57, 98, 163, 165, 172, 0],
   #v[21, 37, 73, 138, 152, 169, 0],
   #v[16, 47, 76, 130, 137, 154, 0],
   #v[3, 24, 30, 72, 104, 139, 0],
   #v[9, 40, 90, 106, 134, 151, 0],
   #v[15, 58, 60, 74, 111, 150, 163],
   #v[18, 42, 79, 144, 146, 152, 0],
   #v[25, 38, 65, 99, 122, 160, 0],
   #v[17, 42, 75, 129, 170, 172, 0]]

/-- NM_RAW of the candidate GRAPH_FT8 (`20_memory.md` rule R62). -/
def Config.nmFT8 : Vector (Vector (BitVec 8) 7) 83 :=
  ⟨⟨Config.nmFT8_0 ++ Config.nmFT8_21 ++ Config.nmFT8_42 ++ Config.nmFT8_63⟩, rfl⟩

/-- Rows 0 to 28 of MN_RAW as `20_memory.md` rule R62 prints them. -/
def Config.mnFT8_0 : List (Vector (BitVec 8) 3) :=
  [#v[16, 45, 73],
   #v[25, 51, 62],
   #v[33, 58, 78],
   #v[1, 44, 45],
   #v[2, 7, 61],
   #v[3, 6, 54],
   #v[4, 35, 48],
   #v[5, 13, 21],
   #v[8, 56, 79],
   #v[9, 64, 69],
   #v[10, 19, 66],
   #v[11, 36, 60],
   #v[12, 37, 58],
   #v[14, 32, 43],
   #v[15, 63, 80],
   #v[17, 28, 77],
   #v[18, 74, 83],
   #v[22, 53, 81],
   #v[23, 30, 34],
   #v[24, 31, 40],
   #v[26, 41, 76],
   #v[27, 57, 70],
   #v[29, 49, 65],
   #v[3, 38, 78],
   #v[5, 39, 82],
   #v[46, 50, 73],
   #v[51, 52, 74],
   #v[55, 71, 72],
   #v[44, 67, 72]]

/-- Rows 29 to 57 of MN_RAW as `20_memory.md` rule R62 prints them. -/
def Config.mnFT8_29 : List (Vector (BitVec 8) 3) :=
  [#v[43, 68, 78],
   #v[1, 32, 59],
   #v[2, 6, 71],
   #v[4, 16, 54],
   #v[7, 65, 67],
   #v[8, 30, 42],
   #v[9, 22, 31],
   #v[10, 18, 76],
   #v[11, 23, 82],
   #v[12, 28, 61],
   #v[13, 52, 79],
   #v[14, 50, 51],
   #v[15, 81, 83],
   #v[17, 29, 60],
   #v[19, 33, 64],
   #v[20, 26, 73],
   #v[21, 34, 40],
   #v[24, 27, 77],
   #v[25, 55, 58],
   #v[35, 53, 66],
   #v[36, 48, 68],
   #v[37, 46, 75],
   #v[38, 45, 47],
   #v[39, 57, 69],
   #v[41, 56, 62],
   #v[20, 49, 53],
   #v[46, 52, 63],
   #v[45, 70, 75],
   #v[27, 35, 80]]

/-- Rows 58 to 86 of MN_RAW as `20_memory.md` rule R62 prints them. -/
def Config.mnFT8_58 : List (Vector (BitVec 8) 3) :=
  [#v[1, 15, 30],
   #v[2, 68, 80],
   #v[3, 36, 51],
   #v[4, 28, 51],
   #v[5, 31, 56],
   #v[6, 20, 37],
   #v[7, 40, 82],
   #v[8, 60, 69],
   #v[9, 10, 49],
   #v[11, 44, 57],
   #v[12, 39, 59],
   #v[13, 24, 55],
   #v[14, 21, 65],
   #v[16, 71, 78],
   #v[17, 30, 76],
   #v[18, 25, 80],
   #v[19, 61, 83],
   #v[22, 38, 77],
   #v[23, 41, 50],
   #v[7, 26, 58],
   #v[29, 32, 81],
   #v[33, 40, 73],
   #v[18, 34, 48],
   #v[13, 42, 64],
   #v[5, 26, 43],
   #v[47, 69, 72],
   #v[54, 55, 70],
   #v[45, 62, 68],
   #v[10, 63, 67]]

/-- Rows 87 to 115 of MN_RAW as `20_memory.md` rule R62 prints them. -/
def Config.mnFT8_87 : List (Vector (BitVec 8) 3) :=
  [#v[14, 66, 72],
   #v[22, 60, 74],
   #v[35, 39, 79],
   #v[1, 46, 64],
   #v[1, 24, 66],
   #v[2, 5, 70],
   #v[3, 31, 65],
   #v[4, 49, 58],
   #v[1, 4, 5],
   #v[6, 60, 67],
   #v[7, 32, 75],
   #v[8, 48, 82],
   #v[9, 35, 41],
   #v[10, 39, 62],
   #v[11, 14, 61],
   #v[12, 71, 74],
   #v[13, 23, 78],
   #v[11, 35, 55],
   #v[15, 16, 79],
   #v[7, 9, 16],
   #v[17, 54, 63],
   #v[18, 50, 57],
   #v[19, 30, 47],
   #v[20, 64, 80],
   #v[21, 28, 69],
   #v[22, 25, 43],
   #v[13, 22, 37],
   #v[2, 47, 51],
   #v[23, 54, 74]]

/-- Rows 116 to 144 of MN_RAW as `20_memory.md` rule R62 prints them. -/
def Config.mnFT8_116 : List (Vector (BitVec 8) 3) :=
  [#v[26, 34, 72],
   #v[27, 36, 37],
   #v[21, 36, 63],
   #v[29, 40, 44],
   #v[19, 26, 57],
   #v[3, 46, 82],
   #v[14, 15, 58],
   #v[33, 52, 53],
   #v[30, 43, 52],
   #v[6, 9, 52],
   #v[27, 33, 65],
   #v[25, 69, 73],
   #v[38, 55, 83],
   #v[20, 39, 77],
   #v[18, 29, 56],
   #v[32, 48, 71],
   #v[42, 51, 59],
   #v[28, 44, 79],
   #v[34, 60, 62],
   #v[31, 45, 61],
   #v[46, 68, 77],
   #v[6, 24, 76],
   #v[8, 10, 78],
   #v[40, 41, 70],
   #v[17, 50, 53],
   #v[42, 66, 68],
   #v[4, 22, 72],
   #v[36, 64, 81],
   #v[13, 29, 47]]

/-- Rows 145 to 173 of MN_RAW as `20_memory.md` rule R62 prints them. -/
def Config.mnFT8_145 : List (Vector (BitVec 8) 3) :=
  [#v[2, 8, 81],
   #v[56, 67, 73],
   #v[5, 38, 50],
   #v[12, 38, 64],
   #v[59, 72, 80],
   #v[3, 26, 79],
   #v[45, 76, 81],
   #v[1, 65, 74],
   #v[7, 18, 77],
   #v[11, 56, 59],
   #v[14, 39, 54],
   #v[16, 37, 66],
   #v[10, 28, 55],
   #v[15, 60, 70],
   #v[17, 25, 82],
   #v[20, 30, 31],
   #v[12, 67, 68],
   #v[23, 75, 80],
   #v[27, 32, 62],
   #v[24, 69, 75],
   #v[19, 21, 71],
   #v[34, 53, 61],
   #v[35, 46, 47],
   #v[33, 59, 76],
   #v[40, 43, 83],
   #v[41, 42, 63],
   #v[49, 75, 83],
   #v[20, 44, 48],
   #v[42, 49, 57]]

/-- MN_RAW of the candidate GRAPH_FT8 (`20_memory.md` rule R62). -/
def Config.mnFT8 : Vector (Vector (BitVec 8) 3) 174 :=
  ⟨⟨Config.mnFT8_0 ++ Config.mnFT8_29 ++ Config.mnFT8_58 ++ Config.mnFT8_87 ++ Config.mnFT8_116 ++ Config.mnFT8_145⟩, rfl⟩

/-- The candidate GRAPH_FT8 of `20_memory.md` rule R62: the spec's author's recollection of the
published FT8 tables, from general knowledge (PRESUMED, notes/assumptions/2.md). -/
def Config.graphFT8 : GraphRom := ⟨Config.nmFT8, Config.mnFT8⟩

end Sys2Proof
end

