-- ==== Sys2Proof/Machine/Graph.lean ====
section
/-! DEFINITION. The graph ROM: its address map, the accessors every other rule uses, and the
well-formedness predicate WF (`20_memory.md` rules R41 to R51). The raw tables are 1-based with the
sentinel 0; the accessors normalise and nothing else does (rule R45).

A row or entry outside a table reads as the empty list or 0: no rule asks for one, and on a
well-formed GRAPH no accessor forms one (notes/assumptions/8.md). -/

namespace Sys2Proof

/-- Row `c` of NM_RAW, raw (rule R42). -/
def GraphRom.nmRow (g : GraphRom) (c : Nat) : List (BitVec 8) :=
  (g.nm.toList[c]?).elim [] Vector.toList

/-- Row `b` of MN_RAW, raw (rule R44). -/
def GraphRom.mnRow (g : GraphRom) (b : Nat) : List (BitVec 8) :=
  (g.mn.toList[b]?).elim [] Vector.toList

/-- Whether a ROM address is mapped (rule R41). -/
def romMapped (addr : Nat) : Bool :=
  decide (addr ≤ 0x244) || (decide (0x400 ≤ addr) && decide (addr ≤ 0x609))

/-- `RomRead(addr)`: the entry at a mapped address, `none` at an unmapped one (rules R41, R43). -/
def GraphRom.read (g : GraphRom) (addr : Nat) : Option (BitVec 8) :=
  if addr ≤ 0x244 then (g.nmRow (addr / 7))[addr % 7]?
  else if 0x400 ≤ addr then (g.mnRow ((addr - 0x400) / 3))[(addr - 0x400) % 3]?
  else none

/-- A nonzero raw entry `v` names index `v − 1` (rule R45). -/
def normalise (v : BitVec 8) : Nat := v.toNat - 1

/-- `bitsOf(c)`: the bits check `c` constrains, 0-based, in row order, the sentinel stripped (rules
R46, R48). -/
def GraphRom.bitsOf (g : GraphRom) (c : Nat) : List Nat :=
  ((g.nmRow c).filter fun v => v != 0#8).map normalise

/-- `deg(c)` (rule R48). -/
def GraphRom.deg (g : GraphRom) (c : Nat) : Nat := (g.bitsOf c).length

/-- `checksOf(b)`: the three checks of bit `b`, 0-based, in ROM order (rule R49). -/
def GraphRom.checksOf (g : GraphRom) (b : Nat) : List Nat := (g.mnRow b).map normalise

/-- `slot(b, c)`: the `j` with `checksOf(b)[j] = c`, for an edge `(b, c)` (rule R50). -/
def GraphRom.slot (g : GraphRom) (b c : Nat) : Nat := (g.checksOf b).idxOf c

/-- W1: places 0 to 5 of a check row in 1..174, place 6 in 0..174 (rule R47). -/
def GraphRom.w1 (g : GraphRom) : Bool :=
  (List.range 83).all fun c =>
    (g.nmRow c).all (fun v => decide (v.toNat ≤ 174)) &&
      ((g.nmRow c).take 6).all fun v => v != 0#8

/-- W2: every entry of a bit row in 1..83 (rule R47). -/
def GraphRom.w2 (g : GraphRom) : Bool :=
  (List.range 174).all fun b => (g.mnRow b).all fun v => decide (1 ≤ v.toNat) && decide (v.toNat ≤ 83)

/-- Whether no element of a list occurs again later in it. -/
def noRepeats : List Nat → Bool
  | [] => true
  | x :: xs => !xs.contains x && noRepeats xs

/-- W3: no row names an index twice (rule R47). -/
def GraphRom.w3 (g : GraphRom) : Bool :=
  ((List.range 83).all fun c => noRepeats (g.bitsOf c)) &&
    ((List.range 174).all fun b => noRepeats (g.checksOf b))

/-- W4: "every (bit, check) edge present in one table must appear in the other" (rule R47). -/
def GraphRom.w4 (g : GraphRom) : Bool :=
  ((List.range 174).all fun b => (g.checksOf b).all fun c => (g.bitsOf c).contains b) &&
    ((List.range 83).all fun c => (g.bitsOf c).all fun b => (g.checksOf b).contains c)

/-- WF(GRAPH), the graph construction check (rule R47). -/
def GraphRom.wf (g : GraphRom) : Bool := g.w1 && g.w2 && g.w3 && g.w4

end Sys2Proof
end

