-- ==== Sys2Proof/Machine/State.lean ====
section
/-! DEFINITION. The state of one context (`10_state.md` rules R12 to R31), the parameters of the
hardware it is built on, its two ports, and its reset (rules R35, R201).

A context executes one command at a time and shares nothing mutable with the others (rule R10), so
the machine of this package is one context; `Machine/Block.lean` is the block of NCTX of them. -/

namespace Sys2Proof.Machine

/-- The sequencer state PHASE (rule R31); its seventh encoding 7 is never entered and has no
constructor. -/
inductive Phase where
  | idle | init | c2b | b2c | hard | synd | payv
  deriving DecidableEq, Repr

/-- RES, the tag of the last attempt's result (rule R23). -/
inductive DecodeResult where
  | none | converged | maxIterationsExceeded | inputInvalid
  deriving DecidableEq, Repr

/-- PV, the PayloadValidity tag; its reserved encoding 3 is never produced (rule R24, item I19 of
`93_implementation_defined.md`) and has no constructor (notes/assumptions/13.md). -/
inductive PayloadValidity where
  | notRun | valid | checksumMismatch
  deriving DecidableEq, Repr

/-- One context. -/
structure State where
  /-- GRAPH, the contents of the graph ROM: a parameter of the hardware, never written (R11). -/
  graph : GraphRom
  /-- Which CHECKSUM the validator computes: a parameter of the hardware, never written (R11). -/
  checksumUnit : ChecksumUnit
  /-- PHASE (R31). -/
  phase : Phase
  /-- CW, the codeword register (R12). -/
  cw : Codeword
  /-- PLD, the payload register (R13). -/
  pld : Payload
  /-- SYN, the syndrome register (R14). -/
  syn : Syndrome
  /-- LLRBUF, the pushed binary32 words (R15). -/
  llrBuf : Vector (BitVec 32) 174
  /-- LLRCNT, the saturating push counter (R16). -/
  llrCnt : BitVec 8
  /-- L, the quantised channel LLRs (R17). -/
  l : BitFile
  /-- Q, the bit-to-check messages (R18). -/
  q : MessageFile
  /-- R, the check-to-bit messages (R19). -/
  r : MessageFile
  /-- TOT, the total beliefs (R20). -/
  tot : BitFile
  /-- ITER, the iterations done (R21). -/
  iter : BitVec 8
  /-- MAXITER, the iteration budget (R22). -/
  maxIter : BitVec 8
  /-- RES (R23). -/
  res : DecodeResult
  /-- PV (R24). -/
  pv : PayloadValidity
  /-- SYNV: SYN and SOK describe the present CW (R25). -/
  synv : Bool
  /-- SOK: every check is satisfied (R25). -/
  sok : Bool
  /-- IIL: the last InputInvalid was for its length (R26). -/
  iil : Bool
  /-- IIN: the last InputInvalid was for a non-finite value (R26). -/
  iin : Bool
  /-- GFAIL: the graph construction check failed (R27). -/
  gfail : Bool
  /-- CERR: a malformed command was refused since reset (R28). -/
  cerr : Bool
  /-- The MODEL's own: the commands the host issues to this context from here on, in order (rules
  R10, R205; notes/assumptions/5.md). -/
  commands : List CommandWord
  /-- The MODEL's own: the response port, holding the last response given; none since reset (rule
  R72; notes/assumptions/5.md). -/
  response : Option ResponseWord
  deriving DecidableEq, Repr

/-- Who could stop the machine with a fault: nobody. The block has no fault, trap or abort besides
its four refused commands (rule R170), each of which is a next state with an error response, so
this type has no constructor. Safe: the spec gives every command word an outcome (rules R76, R180). -/
inductive Fault where
  deriving DecidableEq, Repr

/-- Why a step could end without a meaning. -/
inductive Refusal where
  /-- `notModelled m`: raised by `exec` alone, for a command `m` that has no meaning yet. Every
  command has one, so nothing raises it. Safe: the machine stops. -/
  | notModelled (mnemonic : String)
  deriving DecidableEq, Repr

/-- What every instruction's meaning answers. -/
abbrev Outcome := Host.Outcome State Fault Refusal

/-- A register file of 174 zeros. -/
def zeroBits : BitFile := Vector.replicate 174 0

/-- A message file of 174 × 3 zeros. -/
def zeroMessages : MessageFile := Vector.replicate 174 (Vector.replicate 3 0)

/-- Step 1 of reset on hardware with ROM contents `g` and checksum `u`: every element at its value
in the table of rule R35, with no command pending and no response given (notes/assumptions/5.md). -/
def State.cleared (g : GraphRom) (u : ChecksumUnit) : State where
  graph := g
  checksumUnit := u
  phase := .idle
  cw := 0
  pld := 0
  syn := 0
  llrBuf := Vector.replicate 174 0
  llrCnt := 0
  l := zeroBits
  q := zeroMessages
  r := zeroMessages
  tot := zeroBits
  iter := 0
  maxIter := 25
  res := .none
  pv := .notRun
  synv := false
  sok := false
  iil := false
  iin := false
  gfail := false
  cerr := false
  commands := []
  response := none

/-- The state of a context right after reset, on any hardware: every element at its reset value,
then GFAIL from the graph check (rules R35, R201). -/
def State.resetWith (g : GraphRom) (u : ChecksumUnit) : State :=
  { State.cleared g u with gfail := !g.wf }

/-- The machine right after reset: `State.resetWith` on hardware whose ROM holds GRAPH_FT8 and whose
checksum is the unprinted one (DESIGN CHOICE, notes/assumptions/2.md and 3.md). WF(GRAPH_FT8) holds,
so step 2 of rule R201 leaves GFAIL 0: `Sys2Proof.Laws.reset_eq_resetWith` proves the two equal. -/
def State.reset : State := State.cleared Config.graphFT8 .platform

end Sys2Proof.Machine
end

