-- ==== Sys2Proof/Machine/Flags.lean ====
section
/-! DEFINITION. Response codes and the read-out words of the flags (`30_encoding.md` rules R72, R73,
`10_state.md` rules R23 to R30). -/

namespace Sys2Proof.Machine

/-- The response codes that are ever given (rule R73). -/
inductive ResponseCode where
  | ok | errOpcode | errOperand | errGraph | errInput
  deriving DecidableEq, Repr

/-- The number of a response code (rule R73). -/
def ResponseCode.code : ResponseCode → BitVec 8
  | .ok => 0x00
  | .errOpcode => 0x01
  | .errOperand => 0x02
  | .errGraph => 0x03
  | .errInput => 0x04

/-- A response word, `RC<<32 | RDATA` (rule R72). -/
def responseWord (rc : ResponseCode) (data : BitVec 32) : ResponseWord := rc.code ++ data

/-- The 2-bit encoding of RES (rule R23). -/
def resCode : DecodeResult → BitVec 2
  | .none => 0
  | .converged => 1
  | .maxIterationsExceeded => 2
  | .inputInvalid => 3

/-- The 2-bit encoding of PV (rule R24). -/
def pvCode : PayloadValidity → BitVec 2
  | .notRun => 0
  | .valid => 1
  | .checksumMismatch => 2

/-- STATUS, assembled from its fields, high bits first (rule R29). -/
def State.status (s : State) : BitVec 32 :=
  0#8 ++ s.llrCnt ++ 0#6 ++ BitVec.ofBool s.cerr ++ BitVec.ofBool s.gfail ++ BitVec.ofBool s.iin
    ++ BitVec.ofBool s.iil ++ BitVec.ofBool s.sok ++ BitVec.ofBool s.synv ++ pvCode s.pv
    ++ resCode s.res

/-- The RDIT read-out word: ITER, and MAXITER above it (rule R30). -/
def State.iterationWord (s : State) : BitVec 32 := 0#16 ++ s.maxIter ++ s.iter

end Sys2Proof.Machine
end

