-- ==== Sys2Proof/Machine/Operands.lean ====
section
/-! DEFINITION. Operand forms: the four formats, the sub-fields of packed operands, and the range
of each operand (`30_encoding.md` rules R71, R74, R78; `20_memory.md` rules R41, R54). These are
checks 3 and 4 of `60_exceptions.md` rule R172. -/

namespace Sys2Proof.Machine

/-- The four formats: which of A and D a command uses (rule R71). -/
inductive Format where
  | z | a | d | ad
  deriving DecidableEq, Repr

/-- Check 3: the fields the format does not use are zero (rules R71, R172). -/
def Format.unusedZero : Format → AField → DField → Bool
  | .z, fa, fd => fa == 0#24 && fd == 0#32
  | .a, _, fd => fd == 0#32
  | .d, fa, _ => fa == 0#24
  | .ad, _, _ => true

/-- No check 4: every operand value is legal (formats Z, and LLRP). -/
def anyOperand : Bool := true

/-- SETIT: 1 ≤ n ≤ 255, the bits above n zero (rules R74, R103). -/
def budgetLegal (d : DField) : Bool := d.extractLsb' 8 24 == 0#24 && d.extractLsb' 0 8 != 0#8

/-- CWW: a word number 0..5, and no bit beyond element 173 in word 5 (rules R74, R130). -/
def codewordWriteLegal (a : AField) (d : DField) : Bool :=
  decide (a ≤ 5#24) && (a != 5#24 || d.extractLsb' 14 18 == 0#18)

/-- RDCW: a word number 0..5 (rules R74, R133). -/
def codewordWordLegal (a : AField) : Bool := decide (a ≤ 5#24)

/-- RDPL, RDSY: a word number 0..2 (rules R74, R134, R143). -/
def shortWordLegal (a : AField) : Bool := decide (a ≤ 2#24)

/-- RDLLR, RDTOT, CHKOF: a bit index 0..173 (rules R74, R91, R154, R155). -/
def bitIndexLegal (a : AField) : Bool := decide (a ≤ 173#24)

/-- RDMSG's bit index b, A[7:0] (rule R54). -/
def messageBit (a : AField) : Nat := (a.extractLsb' 0 8).toNat

/-- RDMSG's slot j, A[9:8] (rule R54). -/
def messageSlot (a : AField) : Nat := (a.extractLsb' 8 2).toNat

/-- RDMSG's direction, A[10]: false reads Q, true reads R (rule R54). -/
def messageIsFromCheck (a : AField) : Bool := a.getLsbD 10

/-- RDMSG: A[23:11] zero, b in 0..173, j in 0..2 (rules R54, R156). -/
def messageIndexLegal (a : AField) : Bool :=
  a.extractLsb' 11 13 == 0#13 && decide (messageBit a ≤ 173) && decide (messageSlot a ≤ 2)

/-- BITOF's check index c, A[7:0] (rule R54). -/
def checkIndex (a : AField) : Nat := (a.extractLsb' 0 8).toNat

/-- BITOF's half selector w, A[8] (rule R54). -/
def checkHalf (a : AField) : Bool := a.getLsbD 8

/-- BITOF: A[23:9] zero and c in 0..82 (rules R54, R92). -/
def checkIndexLegal (a : AField) : Bool := a.extractLsb' 9 15 == 0#15 && decide (checkIndex a ≤ 82)

/-- ROMRD: a mapped address (rules R41, R93). -/
def romAddressLegal (a : AField) : Bool := romMapped a.toNat

end Sys2Proof.Machine
end

