-- ==== Sys2Proof/Machine/Ops.lean ====
section
/-! DEFINITION. The operations every command is written over: responding, refusing a command (this
block's exceptions), the common checks, indexed access to the register files, and taking the next
command from the port. -/

namespace Sys2Proof.Machine

/-- `respond(rc, data)`: end the command with a response (rules R8, R72). -/
def State.respond (s : State) (rc : ResponseCode) (data : BitVec 32) : State :=
  { s with response := some (responseWord rc data) }

/-- The four ways a command is refused (`60_exceptions.md` rule R170). -/
inductive Refused where
  /-- ERR_OPCODE: an unassigned opcode (rule R174). -/
  | opcode
  /-- ERR_OPERAND: a nonzero unused field or an illegal operand (rule R175). -/
  | operand
  /-- ERR_GRAPH: GFAIL = 1 and the command is not one of the four exempt (rule R173). -/
  | graph
  /-- ERR_INPUT: DEC's vector has the wrong length (first flag) or a non-finite value (second
  flag) (rule R176). -/
  | input (wrongLength nonFinite : Bool)
  deriving DecidableEq, Repr

/-- The results of an attempt zeroed, "no partial computation": CW, PLD, SYN, L, Q, R, TOT, ITER, PV,
SYNV, SOK (rule R104 step 1; also part of CLR, rule R151). -/
def State.clearAttempt (s : State) : State :=
  { s with
    cw := 0, pld := 0, syn := 0
    l := zeroBits, q := zeroMessages, r := zeroMessages, tot := zeroBits
    iter := 0, pv := .notRun, synv := false, sok := false }

/-- What a refused command writes besides its response (rule R170, last column). -/
def State.recordRefusal (s : State) : Refused → State
  | .opcode => { s with cerr := true }
  | .operand => { s with cerr := true }
  | .graph => s
  | .input wrongLength nonFinite =>
      { s.clearAttempt with res := .inputInvalid, iil := wrongLength, iin := nonFinite }

/-- The response code of a refusal (rule R170). -/
def Refused.responseCode : Refused → ResponseCode
  | .opcode => .errOpcode
  | .operand => .errOperand
  | .graph => .errGraph
  | .input _ _ => .errInput

/-- REFUSING A COMMAND, which is what taking an exception is in this block (rules R170, R179): the
record is written, then the response given; RDATA is 0, or for ERR_INPUT the new STATUS. Nothing is
saved, no mode changes, nothing is entered, so there is no return (rule R180): the context is ready
for its next command. -/
def State.refuse (s : State) (e : Refused) : State :=
  let t := s.recordRefusal e
  match e with
  | .input _ _ => t.respond e.responseCode t.status
  | .opcode | .operand | .graph => t.respond e.responseCode 0

/-- What a word with an unassigned opcode does: check 1 of rule R172. -/
def State.refuseUnassigned (s : State) : State :=
  if s.gfail then s.refuse .graph else s.refuse .opcode

/-- The common checks 2 to 4 of rule R172, in order, then the command's own rule `run`.
`runsOnBadGraph` exempts a command from check 2 (rule R173); `unusedZero` is check 3 and
`operandLegal` check 4. -/
def State.command (s : State) (runsOnBadGraph unusedZero operandLegal : Bool)
    (run : State → State) : State :=
  if !runsOnBadGraph && s.gfail then s.refuse .graph
  else if !unusedZero then s.refuse .operand
  else if !operandLegal then s.refuse .operand
  else run s

/-- Element `b` of L or TOT (rules R17, R20). -/
def bitAt (v : BitFile) (b : Nat) : Int := v.toList.getD b 0

/-- Element `[b][j]` of Q or R (rules R18, R19). -/
def messageAt (m : MessageFile) (b j : Nat) : Int :=
  (m.toList[b]?).elim 0 fun row => row.toList.getD j 0

/-- Store one pushed word at the next free element and count it; the counter sticks at 255 (rule
R100). -/
def State.pushLlr (s : State) (d : DField) : State :=
  { s with
    llrBuf := if h : s.llrCnt.toNat < 174 then s.llrBuf.set s.llrCnt.toNat d else s.llrBuf
    llrCnt := if s.llrCnt = 255#8 then 255#8 else s.llrCnt + 1#8 }

/-- Everything that described an earlier codeword dropped, as CWW does (rule R130). -/
def State.dropResults (s : State) : State :=
  { s with
    res := .none, pv := .notRun, synv := false, sok := false, iil := false, iin := false
    syn := 0, pld := 0 }

/-- The external whole-block reset applied to a context (rules R200, R201): not a command. Its ROM
and checksum stay; a command in progress and the commands behind it get no response. -/
def State.externalReset (s : State) : State := State.resetWith s.graph s.checksumUnit

/-- Accept the next command the host issues, if there is one (rules R10, R31). -/
def State.nextCommand (s : State) : Option (CommandWord × State) :=
  match s.commands with
  | [] => none
  | w :: rest => some (w, { s with commands := rest })

/-- The host issues the command word whose bits are `w`, ahead of all other commands. -/
def State.issueFirst (s : State) (w : CommandWord) : State := { s with commands := w :: s.commands }

end Sys2Proof.Machine
end

