-- ==== Sys2Proof/Machine/ControlStatus.lean ====
section
/-! DEFINITION. The control and read-out commands NOP, CLR, RDST, RDIT, RDLLR, RDTOT and RDMSG
(`44_control_status.md`). -/

namespace Sys2Proof.Machine

/-- NOP: do nothing; runs also while GFAIL = 1 (rule R150). -/
def execNop (a : AField) (d : DField) (s : State) : Outcome :=
  .next <| s.command true (Format.z.unusedZero a d) anyOperand fun s => s.respond .ok 0

/-- CLR: empty the input buffer and drop every result; MAXITER, CERR and GFAIL stay (rule R151). -/
def execClr (a : AField) (d : DField) (s : State) : Outcome :=
  .next <| s.command false (Format.z.unusedZero a d) anyOperand fun s =>
    { s.clearAttempt with
      llrBuf := Vector.replicate 174 0, llrCnt := 0
      res := .none, iil := false, iin := false }.respond .ok 0

/-- RDST: read STATUS; runs also while GFAIL = 1 (rule R152). -/
def execRdst (a : AField) (d : DField) (s : State) : Outcome :=
  .next <| s.command true (Format.z.unusedZero a d) anyOperand fun s => s.respond .ok s.status

/-- RDIT: read ITER and MAXITER (rule R153). -/
def execRdit (a : AField) (d : DField) (s : State) : Outcome :=
  .next <| s.command false (Format.z.unusedZero a d) anyOperand fun s =>
    s.respond .ok s.iterationWord

/-- RDLLR: read one quantised channel LLR (rule R154). -/
def execRdllr (a : AField) (d : DField) (s : State) : Outcome :=
  .next <| s.command false (Format.a.unusedZero a d) (bitIndexLegal a) fun s =>
    s.respond .ok (sext32 (bitAt s.l a.toNat))

/-- RDTOT: read one total belief (rule R155). -/
def execRdtot (a : AField) (d : DField) (s : State) : Outcome :=
  .next <| s.command false (Format.a.unusedZero a d) (bitIndexLegal a) fun s =>
    s.respond .ok (sext32 (bitAt s.tot a.toNat))

/-- RDMSG: read one edge message, Q or R by the direction bit (rule R156). -/
def execRdmsg (a : AField) (d : DField) (s : State) : Outcome :=
  .next <| s.command false (Format.a.unusedZero a d) (messageIndexLegal a) fun s =>
    s.respond .ok
      (sext32 (messageAt (if messageIsFromCheck a then s.r else s.q) (messageBit a) (messageSlot a)))

end Sys2Proof.Machine
end

