-- ==== Sys2Proof/Machine/Arith.lean ====
section
/-! DEFINITION. The block's arithmetic (`41_decode.md` rules R101, R102, R108, R109, R112): the
classification and quantisation of a binary32 input word, sign, saturation, and the min-sum message
of one check. All of it is exact; the integers are unbounded and rules R17 to R20 bound the values
that occur (rule R112; notes/assumptions/7.md). -/

namespace Sys2Proof.Machine

/-- LMAX, the largest magnitude of L, Q and R (rules R7, R17). -/
def lmax : Nat := 32767

/-- `sgn(x)`: −1 for x < 0, else +1 (rule R8). -/
def sgn (x : Int) : Int := if x < 0 then -1 else 1

/-- `sat(x)` clamps to −LMAX .. LMAX (rule R8). -/
def sat (x : Int) : Int := max (-(lmax : Int)) (min (lmax : Int) x)

/-- Sign bit of a binary32 pattern (rule R101). PRESUMED: the layout is general knowledge that the
rule prints (notes/assumptions/12.md). -/
def floatSign (w : BitVec 32) : Bool := w.getLsbD 31

/-- Exponent field of a binary32 pattern (rule R101). -/
def floatExponent (w : BitVec 32) : Nat := (w.extractLsb' 23 8).toNat

/-- Fraction field of a binary32 pattern (rule R101). -/
def floatFraction (w : BitVec 32) : Nat := (w.extractLsb' 0 23).toNat

/-- A NaN or an infinity: the exponent field is 255 (rule R101). -/
def nonfinite (w : BitVec 32) : Bool := floatExponent w == 255

/-- The magnitude of `quant(w)`: the value scaled by 2^8, truncated toward zero, saturated (rule
R102). With `sh = e1 - 142`, it is LMAX where `sh ≥ 0`. -/
def quantMagnitude (w : BitVec 32) : Nat :=
  let e := floatExponent w
  let f := floatFraction w
  let mant := if e = 0 then f else 2 ^ 23 + f
  let e1 := if e = 0 then 1 else e
  if 142 ≤ e1 then lmax else min (mant / 2 ^ (142 - e1)) lmax

/-- `quant(w)`: quantisation of an input word to units of 2^−8 (rule R102). -/
def quant (w : BitVec 32) : Int :=
  if floatSign w then -(quantMagnitude w : Int) else (quantMagnitude w : Int)

/-- Product of the signs of a list of messages (rule R108). -/
def signProduct (qs : List Int) : Int := qs.foldr (fun q p => sgn q * p) 1

/-- Smallest magnitude in a list of messages (rule R108); 0 for the empty list, which a check of
degree 6 or 7 never gives. -/
def minMagnitude (qs : List Int) : Nat := ((qs.map Int.natAbs).min?).getD 0

/-- The min-sum message a check sends to its position `k`, from the messages `qs` it received, in
position order: signs times smallest magnitude over the *other* positions (rule R108). -/
def checkMessage (qs : List Int) (k : Nat) : Int :=
  signProduct (qs.eraseIdx k) * (minMagnitude (qs.eraseIdx k) : Int)

end Sys2Proof.Machine
end

