-- ==== Sys2Proof/Machine/Checksum.lean ====
section
/-! DEFINITION. The checksum of the PayloadValidator (`43_payload.md` rules R144, R145). -/

namespace Sys2Proof.Machine

/-- One step of the division register of CRC14_FT8 (rule R145). -/
def crc14Step (rem : BitVec 14) (bit : Bool) : BitVec 14 :=
  if rem.getLsbD 13 ^^ bit then (rem <<< 1) ^^^ 0x2757#14 else rem <<< 1

/-- The bits CRC14_FT8 divides: the payload in order, then five zeros (rule R145). -/
def crc14Input (p : Payload) : List Bool :=
  (List.range 77).map (fun i => p.getLsbD i) ++ List.replicate 5 false

/-- The final division register of CRC14_FT8 (rule R145). -/
def crc14Remainder (p : Payload) : BitVec 14 := (crc14Input p).foldl crc14Step 0

/-- CRC14_FT8: result element `i` is bit `13 − i` of the remainder (rule R145). PRESUMED: the
spec's author's recollection (notes/assumptions/4.md). -/
def crc14FT8 (p : Payload) : Checksum :=
  BitVec.ofFnLE fun i : Fin 14 => (crc14Remainder p).getLsbD (13 - i.val)

/-- CHECKSUM as this hardware's validator computes it (rule R144). -/
def checksumBy (u : ChecksumUnit) (p : Payload) : Checksum :=
  match u with
  | .platform => Config.checksum p
  | .crc14FT8 => crc14FT8 p

end Sys2Proof.Machine
end

