-- ==== Sys2Proof/Machine/Micro.lean ====
section
/-! DEFINITION. The micro-operations of DEC: INIT, C2B, B2C, HARD (`41_decode.md` rules R106 to
R110), SYND (`42_syndrome.md` rule R131) and PAYV (`43_payload.md` rule R141). None writes PHASE: the
order they run in is DEC's (rule R105), and `Machine/Sequencer.lean` gives it PHASE by PHASE. -/

namespace Sys2Proof.Machine

/-- INIT: a fresh MessageContext from the input buffer (rule R106). -/
def State.initContext (s : State) : State :=
  { s with
    l := Vector.ofFn fun b => quant s.llrBuf[b]
    q := Vector.ofFn fun b => Vector.replicate 3 (quant s.llrBuf[b])
    r := zeroMessages
    tot := Vector.ofFn fun b => quant s.llrBuf[b]
    cw := 0, syn := 0, pld := 0, iter := 0, pv := .notRun, synv := false, sok := false }

/-- The messages check `c` receives, in position order: `q_k = Q[b_k][j_k]` with `b_k = bitsOf(c)[k]`
and `j_k = slot(b_k, c)` (rule R108). -/
def checkInputs (g : GraphRom) (q : MessageFile) (c : Nat) : List Int :=
  (g.bitsOf c).map fun b => messageAt q b (g.slot b c)

/-- The message on edge `[b][j]` from its check `c = checksOf(b)[j]`: what `c` sends to the position
of `b` in its row (rule R108, read along the bijection of rule R50; notes/assumptions/8.md). -/
def edgeMessage (g : GraphRom) (q : MessageFile) (b j : Nat) : Int :=
  let c := (g.checksOf b).getD j 0
  checkMessage (checkInputs g q c) ((g.bitsOf c).idxOf b)

/-- C2B: every check-to-bit message from the old Q (rules R107, R108). -/
def State.c2b (s : State) : State :=
  { s with r := Vector.ofFn fun b => Vector.ofFn fun j => edgeMessage s.graph s.q b.val j.val }

/-- The new TOT of bit `b` (rule R109). -/
def totalBelief (l : BitFile) (r : MessageFile) (b : Nat) : Int :=
  bitAt l b + messageAt r b 0 + messageAt r b 1 + messageAt r b 2

/-- B2C: every total and every bit-to-check message from the new R (rules R107, R109). -/
def State.b2c (s : State) : State :=
  { s with
    tot := Vector.ofFn fun b => totalBelief s.l s.r b.val
    q := Vector.ofFn fun b => Vector.ofFn fun j =>
      sat (totalBelief s.l s.r b.val - messageAt s.r b.val j.val) }

/-- HARD: a total of at most 0 gives bit 1 (rule R110). -/
def State.hard (s : State) : State :=
  { s with cw := bitSeq 174 fun b => decide (bitAt s.tot b ≤ 0) }

/-- The parity of the bits check `c` constrains (rule R131). -/
def parity (g : GraphRom) (cw : Codeword) (c : Nat) : Bool :=
  (g.bitsOf c).foldr (fun b x => cw.getLsbD b ^^ x) false

/-- The syndrome of a codeword (rule R131). -/
def syndromeOf (g : GraphRom) (cw : Codeword) : Syndrome := bitSeq 83 fun c => parity g cw c

/-- SYND: SYN and SOK from CW (rule R131). -/
def State.synd (s : State) : State :=
  { s with
    syn := syndromeOf s.graph s.cw
    synv := true
    sok := syndromeOf s.graph s.cw == 0#83 }

/-- PAYV: PV and PLD from CW (rule R141). -/
def State.payv (s : State) : State :=
  if checksumBy s.checksumUnit (payloadOf s.cw) = checksumOf s.cw then
    { s with pv := .valid, pld := payloadOf s.cw }
  else
    { s with pv := .checksumMismatch, pld := 0 }

end Sys2Proof.Machine
end

