-- ==== Sys2Proof/Machine/IterativeDecoder.lean ====
section
/-! DEFINITION. The IterativeDecoder commands LLRP, SETIT and DEC (`41_decode.md`). -/

namespace Sys2Proof.Machine

/-- LLRP: push one LLR; the response is the new count (rule R100). -/
def execLlrp (a : AField) (d : DField) (s : State) : Outcome :=
  .next <| s.command false (Format.d.unusedZero a d) anyOperand fun s =>
    (s.pushLlr d).respond .ok ((s.pushLlr d).llrCnt.setWidth 32)

/-- SETIT: set the iteration budget (rule R103). -/
def execSetit (a : AField) (d : DField) (s : State) : Outcome :=
  .next <| s.command false (Format.d.unusedZero a d) (budgetLegal d) fun s =>
    { s with maxIter := d.extractLsb' 0 8 }.respond .ok 0

/-- IIL: the vector does not have exactly 174 values (rule R104 step 1). -/
def State.wrongLength (s : State) : Bool := s.llrCnt != 174#8

/-- IIN: a NaN or an infinity among the first min(LLRCNT, 174) words (rule R104 step 1). -/
def State.hasNonfinite (s : State) : Bool :=
  (s.llrBuf.toList.take s.llrCnt.toNat).any nonfinite

/-- One iteration: ITER + 1, then C2B, B2C, HARD, SYND (rules R104 step 3, R111). -/
def State.iteration (s : State) : State := { s with iter := s.iter + 1#8 }.c2b.b2c.hard.synd

/-- RES written (rule R23). -/
def State.withResult (s : State) (x : DecodeResult) : State := { s with res := x }

/-- The loop of DEC, for at most `fuel` passes, with its two exits in order (rules R104, R113). -/
def decodeLoop : (fuel : Nat) → State → State
  | 0, s => s
  | fuel + 1, s =>
    if s.iteration.sok then s.iteration.withResult .converged
    else if s.iteration.iter = s.iteration.maxIter then
      s.iteration.withResult .maxIterationsExceeded
    else decodeLoop fuel s.iteration

/-- The passes the loop is given: ITER and MAXITER are 8 bits wide, so within 256 passes from
ITER = 0 they meet, whatever MAXITER is (notes/assumptions/9.md). -/
def loopFuel : Nat := 256

/-- Steps 2 and 3 of DEC: a fresh context, then the loop (rule R104). -/
def State.runLoop (s : State) : State :=
  decodeLoop loopFuel { s with iil := false, iin := false }.initContext

/-- Steps 2 to 4 of DEC: validation for Converged only (rule R104). -/
def State.runAttempt (s : State) : State :=
  if s.runLoop.res = .converged then s.runLoop.payv else s.runLoop

/-- DEC: one decode attempt, refused with ERR_INPUT on a malformed vector (rules R104, R176). -/
def execDec (a : AField) (d : DField) (s : State) : Outcome :=
  .next <| s.command false (Format.z.unusedZero a d) anyOperand fun s =>
    if s.wrongLength || s.hasNonfinite then s.refuse (.input s.wrongLength s.hasNonfinite)
    else s.runAttempt.respond .ok s.runAttempt.status

end Sys2Proof.Machine
end

