-- ==== Sys2Proof/Machine/ParityGraph.lean ====
section
/-! DEFINITION. The ParityGraph commands GCHK, CHKOF, BITOF and ROMRD (`40_graph_access.md`). -/

namespace Sys2Proof.Machine

/-- GCHK: run the graph construction check; runs also while GFAIL = 1 (rule R90). -/
def execGchk (a : AField) (d : DField) (s : State) : Outcome :=
  .next <| s.command true (Format.z.unusedZero a d) anyOperand fun s =>
    { s with gfail := !s.graph.wf }.respond .ok (zextBit (!s.graph.wf))

/-- A check index as a response byte. -/
def checkByte (g : GraphRom) (b j : Nat) : BitVec 8 := BitVec.ofNat 8 ((g.checksOf b).getD j 0)

/-- CHKOF: the three checks of a bit, lowest position in the low byte (rule R91). -/
def execChkof (a : AField) (d : DField) (s : State) : Outcome :=
  .next <| s.command false (Format.a.unusedZero a d) (bitIndexLegal a) fun s =>
    s.respond .ok
      (0#8 ++ checkByte s.graph a.toNat 2 ++ checkByte s.graph a.toNat 1
        ++ checkByte s.graph a.toNat 0)

/-- Byte `e[k]` of BITOF: `bitsOf(c)[k]`, or 0xFF past the degree (rule R92). -/
def bitByte (g : GraphRom) (c k : Nat) : BitVec 8 := BitVec.ofNat 8 ((g.bitsOf c).getD k 0xFF)

/-- The response word of BITOF: half 0 is `e[0..3]`, half 1 is `e[4..6]` and the degree (rule R92). -/
def bitofWord (g : GraphRom) (c : Nat) (half : Bool) : BitVec 32 :=
  if half then BitVec.ofNat 8 (g.deg c) ++ bitByte g c 6 ++ bitByte g c 5 ++ bitByte g c 4
  else bitByte g c 3 ++ bitByte g c 2 ++ bitByte g c 1 ++ bitByte g c 0

/-- BITOF: the bits of a check, in two words (rule R92). -/
def execBitof (a : AField) (d : DField) (s : State) : Outcome :=
  .next <| s.command false (Format.a.unusedZero a d) (checkIndexLegal a) fun s =>
    s.respond .ok (bitofWord s.graph (checkIndex a) (checkHalf a))

/-- ROMRD: one raw table entry as stored; runs also while GFAIL = 1 (rule R93). -/
def execRomrd (a : AField) (d : DField) (s : State) : Outcome :=
  .next <| s.command true (Format.a.unusedZero a d) (romAddressLegal a) fun s =>
    s.respond .ok (((s.graph.read a.toNat).getD 0).setWidth 32)

end Sys2Proof.Machine
end

