-- ==== Sys2Proof/Machine/PayloadValidator.lean ====
section
/-! DEFINITION. The PayloadValidator commands PAY and RDPL (`43_payload.md`). -/

namespace Sys2Proof.Machine

/-- PAY: run PAYV; the response is PV (rule R142). -/
def execPay (a : AField) (d : DField) (s : State) : Outcome :=
  .next <| s.command false (Format.z.unusedZero a d) anyOperand fun s =>
    s.payv.respond .ok ((pvCode s.payv.pv).setWidth 32)

/-- RDPL: read one word of PLD (rule R143). -/
def execRdpl (a : AField) (d : DField) (s : State) : Outcome :=
  .next <| s.command false (Format.a.unusedZero a d) (shortWordLegal a) fun s =>
    s.respond .ok (seqWord s.pld a.toNat)

end Sys2Proof.Machine
end

