-- ==== Sys2Proof/Machine/SyndromeChecker.lean ====
section
/-! DEFINITION. The SyndromeChecker commands CWW, SYN, RDCW and RDSY (`42_syndrome.md`). -/

namespace Sys2Proof.Machine

/-- CWW: write one word of CW and drop every result that described the old one (rule R130). -/
def execCww (a : AField) (d : DField) (s : State) : Outcome :=
  .next <| s.command false (Format.ad.unusedZero a d) (codewordWriteLegal a d) fun s =>
    { s.dropResults with cw := writeCodewordWord s.cw a.toNat d }.respond .ok 0

/-- SYN: run SYND; the response is the number of violated checks (rule R132). -/
def execSyn (a : AField) (d : DField) (s : State) : Outcome :=
  .next <| s.command false (Format.z.unusedZero a d) anyOperand fun s =>
    s.synd.respond .ok (BitVec.ofNat 32 (popcount s.synd.syn))

/-- RDCW: read one word of CW (rule R133). -/
def execRdcw (a : AField) (d : DField) (s : State) : Outcome :=
  .next <| s.command false (Format.a.unusedZero a d) (codewordWordLegal a) fun s =>
    s.respond .ok (seqWord s.cw a.toNat)

/-- RDSY: read one word of SYN (rule R134). -/
def execRdsy (a : AField) (d : DField) (s : State) : Outcome :=
  .next <| s.command false (Format.a.unusedZero a d) (shortWordLegal a) fun s =>
    s.respond .ok (seqWord s.syn a.toNat)

end Sys2Proof.Machine
end

