-- ==== Sys2Proof/Machine/Dispatch.lean ====
section
/-! DEFINITION. What each command does: one arm per constructor of Instr. -/

namespace Sys2Proof.Machine

def exec (i : Instr) (s : State) : Host.Outcome State Fault Refusal :=
  match i with
  | .nop a d => Sys2Proof.Machine.execNop a d s
  | .clr a d => Sys2Proof.Machine.execClr a d s
  | .gchk a d => Sys2Proof.Machine.execGchk a d s
  | .setit a d => Sys2Proof.Machine.execSetit a d s
  | .llrp a d => Sys2Proof.Machine.execLlrp a d s
  | .dec a d => Sys2Proof.Machine.execDec a d s
  | .cww a d => Sys2Proof.Machine.execCww a d s
  | .syn a d => Sys2Proof.Machine.execSyn a d s
  | .pay a d => Sys2Proof.Machine.execPay a d s
  | .rdst a d => Sys2Proof.Machine.execRdst a d s
  | .rdit a d => Sys2Proof.Machine.execRdit a d s
  | .rdcw a d => Sys2Proof.Machine.execRdcw a d s
  | .rdpl a d => Sys2Proof.Machine.execRdpl a d s
  | .rdsy a d => Sys2Proof.Machine.execRdsy a d s
  | .rdllr a d => Sys2Proof.Machine.execRdllr a d s
  | .rdtot a d => Sys2Proof.Machine.execRdtot a d s
  | .rdmsg a d => Sys2Proof.Machine.execRdmsg a d s
  | .chkof a d => Sys2Proof.Machine.execChkof a d s
  | .bitof a d => Sys2Proof.Machine.execBitof a d s
  | .romrd a d => Sys2Proof.Machine.execRomrd a d s

end Sys2Proof.Machine
end

