-- ==== Sys2Proof/Machine/Step.lean ====
section
/-! DEFINITION. One step of a context: it accepts the next command of its port and executes it to
completion (`10_state.md` rules R10, R31, R32). The block fetches nothing from a memory (rule R61):
where a processor fetches at its program counter, a context takes what the host sends next. With
nothing sent it waits in IDLE with all state kept (rule R190; notes/assumptions/5.md). -/

namespace Sys2Proof.Machine

/-- One step: the next command decoded (rules R76, R172 check 1) and run. -/
def step (s : State) : Host.Outcome State Fault Refusal :=
  match s.nextCommand with
  | none => .next s
  | some (w, t) =>
    match decode w with
    | .ok i => exec i t
    | .error (.unassignedOpcode _) => .next t.refuseUnassigned

/-- `s` with the command word whose low `nbits` bits are those of `w`, the rest zero, issued next. -/
def State.withFetchWord (s : State) (nbits w : Nat) : State :=
  s.issueFirst (BitVec.ofNat 64 (w % 2 ^ nbits))

end Sys2Proof.Machine
end

