-- ==== Sys2Proof/Machine/Block.lean ====
section
/-! DEFINITION. The whole block: NCTX independent contexts over one graph ROM (`10_state.md` rule
R10, `60_exceptions.md` rule R188). No command of one context touches another; which context moves
next is not the block's choice, so a run is given by a schedule of context numbers (rule R58). -/

namespace Sys2Proof.Machine

/-- The block: the states of its contexts, in port order. -/
structure Block where
  contexts : List State
  deriving DecidableEq, Repr

/-- Reset of the whole block acts on every context at once (rules R188, R200, R201). -/
def Block.reset (n : Nat) (g : GraphRom) (u : ChecksumUnit) : Block :=
  ⟨List.replicate n (State.resetWith g u)⟩

/-- The block of this hardware after reset: NCTX contexts (rule R188). -/
def Block.powerUp (g : GraphRom) (u : ChecksumUnit) : Block := Block.reset Config.nctx g u

/-- The external reset of a running block: every context at once, each keeping its ROM and checksum
(rules R188, R200). -/
def Block.externalReset (b : Block) : Block := ⟨b.contexts.map State.externalReset⟩

/-- A context after one step; a step always answers a next state. -/
def State.advance (s : State) : State :=
  match step s with
  | .next t => t
  | .fault _ => s
  | .refused _ => s

/-- `n` steps of a context. -/
def State.advanceBy : (n : Nat) → State → State
  | 0, s => s
  | n + 1, s => State.advanceBy n s.advance

/-- Context `k` takes one step and every other context stays as it is (rules R10, R188). -/
def Block.stepContext (b : Block) (k : Nat) : Block := ⟨b.contexts.modify k State.advance⟩

/-- A run of the block under a schedule (rule R58). -/
def Block.run (b : Block) (schedule : List Nat) : Block := schedule.foldl Block.stepContext b

end Sys2Proof.Machine
end

