-- ==== Sys2Proof/Machine/Memory.lean ====
section
/-! DEFINITION. The one memory of the block, the graph ROM, as a list of addressed bytes
(`20_memory.md` rules R40, R41). State holds the ROM as its two tables, which is the form rule R41
and decision D18 give it; this is the same contents by address, in one canonical form: addresses
strictly rising. An unlisted address is unmapped and reads as no value (notes/assumptions/11.md). -/

namespace Sys2Proof.Machine

/-- The mapped ROM addresses, in rising order (rule R41). -/
def romAddresses : List Nat := List.range 581 ++ (List.range 522).map fun i => 0x400 + i

/-- The ROM's contents by address. -/
def romCells (g : GraphRom) : List Host.Cell :=
  romAddresses.filterMap fun addr => (g.read addr).map fun e => (addr, e)

/-- The canonical form of a memory: addresses strictly rising. -/
def Memory.wf : List Host.Cell → Bool
  | [] => true
  | [_] => true
  | x :: y :: rest => decide (x.1 < y.1) && Memory.wf (y :: rest)

/-- The byte at an address; an unlisted address has none. -/
def Memory.read (cells : List Host.Cell) (addr : Nat) : Option (BitVec 8) := cells.lookup addr

end Sys2Proof.Machine
end

