-- ==== Sys2Proof/Machine/Sequencer.lean ====
section
/-! DEFINITION. DEC phase by phase (`10_state.md` rule R31, `41_decode.md` rule R105): PHASE names
the micro-operation that runs next, and one tick runs it. The host never sees a state between two
ticks, so `execDec` runs an attempt as one function; this file says what order that function has. -/

namespace Sys2Proof.Machine

/-- One tick of the sequencer: IDLE → INIT → (C2B → B2C → HARD → SYND)^ITER → [PAYV] → IDLE. -/
def State.tick (s : State) : State :=
  match s.phase with
  | .idle => s
  | .init => { s.initContext with phase := .c2b }
  | .c2b => { { s with iter := s.iter + 1#8 }.c2b with phase := .b2c }
  | .b2c => { s.b2c with phase := .hard }
  | .hard => { s.hard with phase := .synd }
  | .synd =>
    if s.synd.sok then { s.synd with res := .converged, phase := .payv }
    else if s.synd.iter = s.synd.maxIter then
      { s.synd with res := .maxIterationsExceeded, phase := .idle }
    else { s.synd with phase := .c2b }
  | .payv => { s.payv with phase := .idle }

/-- `n` ticks. -/
def State.ticks : (n : Nat) → State → State
  | 0, s => s
  | n + 1, s => State.ticks n s.tick

/-- The state in which a DEC that passed its precondition enters INIT (rule R104 step 2). -/
def State.startAttempt (s : State) : State := { s with iil := false, iin := false, phase := .init }

/-- Ticks enough for any attempt: INIT, four for each of 256 passes, PAYV. -/
def attemptTicks : Nat := 4 * loopFuel + 2

end Sys2Proof.Machine
end

