-- ==== Sys2Proof/Safety.lean ====
section
/-! DEFINITION. What counts as a good state of a context: the invariants of `10_state.md` rule R34 and
the ranges of rules R14 to R20, and the words statements about runs use.

Rule R34 calls its ten items derived. Item 6 and the last clauses of items 4 and 5 hold at the moment
DEC responds and not for ever after: SYN and PAY write SYNV, SOK, PV and PLD and not RES (rules R132,
R142), after a refused DEC too (rule R180), and SETIT writes MAXITER (rule R103). `Inv` keeps what every command keeps; items 4, 5 and 6
whole are `ConvergedItem`, `ExceededItem` and `InvalidItem`, which hold from DEC's response on until
one of those commands (DEDUCED, notes/assumptions/10.md). -/

namespace Sys2Proof.Machine

/-- The numbers of the positions of check `c` that hold a 1, an odd count being a violated check
(rules R48, R131). -/
def onesInCheck (g : GraphRom) (cw : Codeword) (c : Nat) : Nat :=
  (g.bitsOf c).countP fun b => cw.getLsbD b

/-- A codeword of GRAPH: every check has an even number of ones (`42_syndrome.md` rule R135). -/
def IsCodeword (g : GraphRom) (cw : Codeword) : Prop := ∀ c, c < 83 → onesInCheck g cw c % 2 = 0

/-- The range of L, Q and R (rules R17 to R19). -/
def WithinLmax (x : Int) : Prop := -32767 ≤ x ∧ x ≤ 32767

/-- A payload the host may take as received: the checksum matches and the parity checks of the same
codeword are known to hold (`70_reset_and_hazards.md` rule R208). -/
def State.Received (s : State) : Prop := s.pv = .valid ∧ s.synv = true ∧ s.sok = true

/-- A GRAPH-independent reading of DEC's precondition on the pushed words: none of the first
min(LLRCNT, 174) has exponent field 255 (`41_decode.md` rules R101, R104). -/
def State.FiniteInput (s : State) : Prop :=
  ∀ i, (h : i < 174) → i < s.llrCnt.toNat → s.llrBuf[i].toNat / 2 ^ 23 % 256 ≠ 255

/-- The values of OP that are no command, as rule R77 lists them. -/
abbrev UnassignedOpcode (op : Nat) : Prop :=
  (0x04 ≤ op ∧ op ≤ 0x0F) ∨ (0x15 ≤ op ∧ op ≤ 0x1F) ∨ (0x28 ≤ op ∧ op ≤ 0x2F) ∨
    (0x33 ≤ op ∧ op ≤ 0xFF)

/-- What every reachable state of a context has. -/
structure State.Inv (s : State) : Prop where
  /-- Item 1 of rule R34. -/
  phase_idle : s.phase = .idle
  /-- GFAIL is what the check of the ROM says (rules R27, R201). -/
  gfail_is_check : s.gfail = !s.graph.wf
  /-- Item 2. -/
  sok_needs_synv : s.sok = true → s.synv = true
  /-- Item 3: SYN is the parity of each check. -/
  syn_is_parity : s.synv = true →
    ∀ c, c < 83 → (s.syn.getLsbD c = true ↔ onesInCheck s.graph s.cw c % 2 = 1)
  /-- Item 3: SOK says SYN is all zero. -/
  sok_is_zero : s.synv = true → (s.sok = true ↔ s.syn = 0)
  /-- SYN is all zero while SYNV = 0 (rule R14). -/
  syn_zero : s.synv = false → s.syn = 0
  /-- Item 4, as later commands keep it. -/
  converged : s.res = .converged →
    s.synv = true ∧ s.sok = true ∧ s.pv ≠ .notRun ∧ 1 ≤ s.iter.toNat
  /-- Item 5, as later commands keep it. -/
  exceeded : s.res = .maxIterationsExceeded → s.synv = true ∧ s.sok = false ∧ 1 ≤ s.iter.toNat
  /-- Item 6, as later commands keep it. -/
  invalid : s.res = .inputInvalid →
    s.iter = 0 ∧ (s.iil = true ∨ s.iin = true) ∧ s.cw = 0 ∧ s.pld = 0 ∧ s.syn = 0 ∧
      s.l = zeroBits ∧ s.q = zeroMessages ∧ s.r = zeroMessages ∧ s.tot = zeroBits
  /-- Item 7: a valid payload is the codeword's and has its checksum. -/
  valid : s.pv = .valid →
    s.pld = payloadOf s.cw ∧ checksumBy s.checksumUnit s.pld = checksumOf s.cw
  /-- Item 7: no payload unless valid. -/
  no_payload : s.pv ≠ .valid → s.pld = 0
  /-- Item 8: a total is the channel LLR plus the three incoming messages. -/
  totals : ∀ b, (h : b < 174) → s.tot[b] = s.l[b] + s.r[b][0] + s.r[b][1] + s.r[b][2]
  /-- Item 9. -/
  causes : s.res ≠ .inputInvalid → s.iil = false ∧ s.iin = false
  /-- Item 10. -/
  budget : 1 ≤ s.maxIter.toNat
  /-- Rule R17. -/
  l_range : ∀ b, (h : b < 174) → WithinLmax s.l[b]
  /-- Rule R18. -/
  q_range : ∀ b j, (h : b < 174) → (h' : j < 3) → WithinLmax s.q[b][j]
  /-- Rule R19. -/
  r_range : ∀ b j, (h : b < 174) → (h' : j < 3) → WithinLmax s.r[b][j]
  /-- Rule R20. -/
  tot_range : ∀ b, (h : b < 174) → (-131068 : Int) ≤ s.tot[b] ∧ s.tot[b] ≤ (131068 : Int)
  /-- An element nothing has pushed since CLR or reset is 0 (rules R15, R35, R151). -/
  unpushed : ∀ i, (h : i < 174) → s.llrCnt.toNat ≤ i → s.llrBuf[i] = 0

/-- Item 4 of rule R34 whole; a later SETIT may end its last clause, as the rule says. -/
def State.ConvergedItem (s : State) : Prop :=
  s.res = .converged → s.synv = true ∧ s.sok = true ∧
    (s.pv = .valid ∨ s.pv = .checksumMismatch) ∧ 1 ≤ s.iter.toNat ∧
    s.iter.toNat ≤ s.maxIter.toNat

/-- Item 5 of rule R34 whole, MAXITER being the one DEC ran with until a later SETIT; a later PAY, as
the rule says, may end PV = NotRun. -/
def State.ExceededItem (s : State) : Prop :=
  s.res = .maxIterationsExceeded →
    s.synv = true ∧ s.sok = false ∧ s.iter = s.maxIter ∧ s.pv = .notRun

/-- Item 6 of rule R34 whole; a later SYN ends SYNV = 0 and a later PAY ends PV = NotRun (rules R132,
R142; notes/assumptions/10.md). -/
def State.InvalidItem (s : State) : Prop :=
  s.res = .inputInvalid →
    s.iter = 0 ∧ s.pv = .notRun ∧ s.synv = false ∧ (s.iil = true ∨ s.iin = true) ∧ s.cw = 0 ∧
      s.pld = 0 ∧ s.syn = 0 ∧ s.l = zeroBits ∧ s.q = zeroMessages ∧ s.r = zeroMessages ∧
      s.tot = zeroBits

/-- `s` after a command refused with ERR_OPERAND: CERR ← 1, RDATA = 0, nothing else (rule R175). -/
def State.operandRefused (s : State) : State :=
  { s with cerr := true, response := some (responseWord .errOperand 0) }

/-- `s` after a command refused with ERR_GRAPH: RDATA = 0, nothing else (rule R173). -/
def State.graphRefused (s : State) : State := { s with response := some (responseWord .errGraph 0) }

/-- `s` after a command that did nothing but answer OK with `data`. -/
def State.answered (s : State) (data : BitVec 32) : State :=
  { s with response := some (responseWord .ok data) }

end Sys2Proof.Machine
end

