-- ==== Sys2Proof/Certificates/Slice0/Obligations.lean ====
section
/-! DEFINITION. The statements for the provers, in the order of the spec's subjects: encoding, the
port, refusals, the graph, the micro-operations, DEC, the other commands, the whole machine. A
frame is stated by an equation `exec i s = .next t` whose right side names every field that changes.
Numbers of fields and bits are written out from the spec's tables, not through the model's own
helpers, where both exist. -/

open Sys2Proof Sys2Proof.Machine

/-! ## Encoding (`30_encoding.md`) -/

/-- Decoding an encoded command gives the command, with every operand at every value, legal or not
(rules R70, R75). -/
def Obligations.DecodeOfEncodeIsTheCommand : Prop := ∀ i : Instr, decode (encode i) = .ok i

/-- A word that decodes to a command is that command's encoding: no bit of a word is dropped
(rules R70, R75, R76). -/
def Obligations.EncodeOfDecodedWordIsTheWord : Prop :=
  ∀ (w : CommandWord) (i : Instr), decode w = .ok i → encode i = w

/-- The decoder rejects exactly the words whose OP is one of the 236 unassigned values (rules R76,
R77). -/
def Obligations.DecodeRejectsExactlyUnassignedOpcodes : Prop :=
  (∀ w : CommandWord, (∃ e, decode w = .error e) ↔ UnassignedOpcode (w.toNat / 2 ^ 56)) ∧
    ((List.range 256).filter fun op => decide (UnassignedOpcode op)).length = 236

/-- The nine worked encodings of rule R81, both ways. -/
def Obligations.WorkedEncodingsReadAsPrinted : Prop :=
  (decode 0x0000000000000000 = .ok (.nop 0 0) ∧ encode (.nop 0 0) = 0x0000000000000000) ∧
  (decode 0x0100000000000000 = .ok (.clr 0 0) ∧ encode (.clr 0 0) = 0x0100000000000000) ∧
  (decode 0x030000000000000A = .ok (.setit 0 10) ∧ encode (.setit 0 10) = 0x030000000000000A) ∧
  (decode 0x1000000041000000 = .ok (.llrp 0 0x41000000) ∧
    encode (.llrp 0 0x41000000) = 0x1000000041000000) ∧
  (decode 0x1100000000000000 = .ok (.dec 0 0) ∧ encode (.dec 0 0) = 0x1100000000000000) ∧
  (decode 0x1200000500002AAA = .ok (.cww 5 0x2AAA) ∧
    encode (.cww 5 0x2AAA) = 0x1200000500002AAA) ∧
  (decode 0x2700065C00000000 = .ok (.rdmsg (packMessageIndex true 92 2) 0) ∧
    encode (.rdmsg (packMessageIndex true 92 2) 0) = 0x2700065C00000000) ∧
  (decode 0x3100010100000000 = .ok (.bitof (packCheckIndex 1 true) 0) ∧
    encode (.bitof (packCheckIndex 1 true) 0) = 0x3100010100000000) ∧
  (decode 0x3200040C00000000 = .ok (.romrd 0x40C 0) ∧
    encode (.romrd 0x40C 0) = 0x3200040C00000000)

/-! ## The port -/

/-- A step runs the decoded command: exec of it, on the state with the command taken off the port
(rules R10, R31, R172). -/
def Obligations.StepRunsTheDecodedCommand : Prop :=
  ∀ (s : State) (w : CommandWord) (rest : List CommandWord) (i : Instr),
    s.commands = w :: rest → decode w = .ok i → step s = exec i { s with commands := rest }

/-- The port decides what runs: with no command a context keeps all its state (rule R190), and a
word placed first at the port is what the next step runs (the model's convention, log entry 5). -/
def Obligations.PortDecidesWhatRuns : Prop :=
  (∀ s : State, s.commands = [] → step s = .next s) ∧
    ∀ (s : State) (w : Nat) (i : Instr),
      decode (BitVec.ofNat 64 w) = .ok i → step (s.withFetchWord 64 w) = exec i s

/-- Every command word gets exactly one response, 40 bits RC and RDATA, with RC one of 0 to 4 and
RDATA 0 unless RC is OK, or ERR_INPUT, where it is STATUS (rule R72). No step faults or is refused
by the model. -/
def Obligations.EveryCommandWordGetsOneResponse : Prop :=
  ∀ (s : State) (w : CommandWord) (rest : List CommandWord), s.commands = w :: rest →
    ∃ (t : State) (rc : ResponseCode) (data : BitVec 32),
      step s = .next t ∧ t.commands = rest ∧ t.response = some (responseWord rc data) ∧
        (responseWord rc data).toNat = rc.code.toNat * 2 ^ 32 + data.toNat ∧
        rc.code.toNat ≤ 4 ∧
        (rc.code ≠ 0x00 → rc.code ≠ 0x04 → data = 0) ∧
        (rc.code = 0x04 → data = t.status)

/-! ## Refusals (`60_exceptions.md`) -/

/-- A word with an unassigned opcode does nothing but set CERR and respond ERR_OPCODE; while
GFAIL = 1 it responds ERR_GRAPH and does not set CERR (rules R77, R174). -/
def Obligations.UnassignedOpcodeIsRefused : Prop :=
  ∀ (s : State) (w : CommandWord) (rest : List CommandWord),
    s.commands = w :: rest → UnassignedOpcode (w.toNat / 2 ^ 56) →
      (s.gfail = false → step s = .next
        { s with commands := rest, cerr := true, response := some (responseWord .errOpcode 0) }) ∧
      (s.gfail = true → step s = .next
        { s with commands := rest, response := some (responseWord .errGraph 0) })

/-- A malformed command that passes check 2 changes nothing but CERR and answers ERR_OPERAND, and a
well-formed one never answers ERR_OPERAND; `Instr.wellFormed` is the complement of the rule's table
(rule R175). -/
def Obligations.MalformedCommandsAreRefused : Prop :=
  ∀ (i : Instr) (s : State),
    (i.wellFormed = false → s.gfail = false ∨ i.runsOnBadGraph = true →
      exec i s = .next s.operandRefused) ∧
    (i.wellFormed = true → ∀ t : State, exec i s = .next t →
      ∀ data, t.response ≠ some (responseWord .errOperand data))

/-- With GFAIL = 1 every command but NOP, GCHK, RDST and ROMRD is refused and changes nothing; those
four never answer ERR_GRAPH (rule R173). -/
def Obligations.BadGraphRefusesWorkingCommands : Prop :=
  ∀ (i : Instr) (s : State), s.gfail = true →
    (i.opcode ≠ 0x00 → i.opcode ≠ 0x02 → i.opcode ≠ 0x20 → i.opcode ≠ 0x32 →
      exec i s = .next s.graphRefused) ∧
    (i.opcode = 0x00 ∨ i.opcode = 0x02 ∨ i.opcode = 0x20 ∨ i.opcode = 0x32 →
      ∀ t : State, exec i s = .next t → ∀ data, t.response ≠ some (responseWord .errGraph data))

/-- DEC on a vector of the wrong length or with a non-finite value: the attempt's results are
zeroed, RES = InputInvalid with its causes, RDATA is the new STATUS, and nothing else changes (rule
R176). -/
def Obligations.InvalidInputClearsTheContext : Prop :=
  ∀ (s : State) (iil iin : Bool), s.gfail = false →
    (iil = true ↔ s.llrCnt.toNat ≠ 174) →
    (iin = true ↔ ∃ i, ∃ h : i < 174,
      i < s.llrCnt.toNat ∧ s.llrBuf[i].toNat / 2 ^ 23 % 256 = 255) →
    iil = true ∨ iin = true →
      ∃ t : State,
        t = { s with
          cw := 0, pld := 0, syn := 0
          l := Vector.replicate 174 0, tot := Vector.replicate 174 0
          q := Vector.replicate 174 (Vector.replicate 3 0)
          r := Vector.replicate 174 (Vector.replicate 3 0)
          iter := 0, pv := .notRun, synv := false, sok := false
          res := .inputInvalid, iil := iil, iin := iin } ∧
        exec (.dec 0 0) s = .next { t with response := some (responseWord .errInput t.status) }

/-! ## The graph (`20_memory.md`) -/

/-- The accessors strip the sentinel and subtract 1, in row order; on a well-formed GRAPH a check
has 6 or 7 bits and a bit 3 checks, in range and without repeats (rules R48, R49). -/
def Obligations.AccessorsNormaliseTheTables : Prop :=
  ∀ g : GraphRom,
    (∀ c, (h : c < 83) →
      g.bitsOf c = (List.finRange 7).filterMap (fun k : Fin 7 =>
          if g.nm[c][k] = 0 then none else some (g.nm[c][k].toNat - 1)) ∧
        (g.wf = true → (g.deg c = 6 ∨ g.deg c = 7) ∧ (g.bitsOf c).length = g.deg c ∧
          (∀ b ∈ g.bitsOf c, b < 174) ∧ (g.bitsOf c).Nodup)) ∧
    (∀ b, (h : b < 174) →
      g.checksOf b = [g.mn[b][0].toNat - 1, g.mn[b][1].toNat - 1, g.mn[b][2].toNat - 1] ∧
        (g.wf = true → (∀ c ∈ g.checksOf b, c < 83) ∧ (g.checksOf b).Nodup))

/-- WF is W1 to W4 on the raw tables, W4 being the two-way consistency of every pair of a bit and a
check (rule R47). -/
def Obligations.GraphCheckIsBidirectionalConsistency : Prop :=
  ∀ g : GraphRom, g.wf = true ↔
    (∀ c, (h : c < 83) → (∀ k, (h' : k < 6) → 1 ≤ g.nm[c][k].toNat ∧ g.nm[c][k].toNat ≤ 174) ∧
      g.nm[c][6].toNat ≤ 174) ∧
    (∀ b j, (h : b < 174) → (h' : j < 3) → 1 ≤ g.mn[b][j].toNat ∧ g.mn[b][j].toNat ≤ 83) ∧
    ((∀ c k k', (h : c < 83) → (h' : k < 7) → (h'' : k' < 7) → k ≠ k' →
        g.nm[c][k] ≠ 0 → g.nm[c][k] ≠ g.nm[c][k']) ∧
      ∀ b j j', (h : b < 174) → (h' : j < 3) → (h'' : j' < 3) → j ≠ j' →
        g.mn[b][j] ≠ g.mn[b][j']) ∧
    ∀ b c, (h : b < 174) → (h' : c < 83) →
      ((∃ j, ∃ hj : j < 3, g.mn[b][j].toNat = c + 1) ↔
        ∃ k, ∃ hk : k < 7, g.nm[c][k].toNat = b + 1)

/-- On a well-formed GRAPH, slot(b, c) is the one place of c among the checks of b, and the
positions of the checks correspond one to one to the message places [b][j] (the spec's own inference
at the end of rule R50). -/
def Obligations.EdgeSlotsAreABijection : Prop :=
  ∀ g : GraphRom, g.wf = true →
    (∀ c b, c < 83 → b ∈ g.bitsOf c →
      g.slot b c < 3 ∧ (g.checksOf b)[g.slot b c]? = some c ∧
        ∀ j, (g.checksOf b)[j]? = some c → j = g.slot b c) ∧
    ∀ b j, b < 174 → j < 3 → ∃! p : Nat × Nat,
      p.1 < 83 ∧ (g.bitsOf p.1)[p.2]? = some b ∧ g.slot b p.1 = j

/-- A well-formed GRAPH has 522 edges counted from either side, so exactly 24 checks of degree 7 and
59 of degree 6 (the spec's own inference, rule R51). -/
def Obligations.TwentyFourChecksHaveDegreeSeven : Prop :=
  ∀ g : GraphRom, g.wf = true →
    ((List.range 174).map fun b => (g.checksOf b).length).sum = 522 ∧
    ((List.range 83).map g.deg).sum = 522 ∧
    (List.range 83).countP (fun c => g.deg c == 7) = 24 ∧
    (List.range 83).countP (fun c => g.deg c == 6) = 59

/-! ## Arithmetic and micro-operations (`41_decode.md`, `42_syndrome.md`, `43_payload.md`) -/

/-- quant(w) has the sign of the value v of the word and the magnitude min(floor(|v| · 256), 32767),
v being (−1)^s · mant · 2^(e1−150) (rule R102); and no word leaves the range. -/
def Obligations.QuantisationTruncatesAndSaturates : Prop :=
  ∀ (w : BitVec 32) (e f mant e1 : Nat),
    e = w.toNat / 2 ^ 23 % 256 → f = w.toNat % 2 ^ 23 →
    mant = (if e = 0 then f else 2 ^ 23 + f) → e1 = (if e = 0 then 1 else e) →
      (e ≠ 255 → quant w = (if w.toNat / 2 ^ 31 = 1 then -1 else 1) *
        min ⌊(mant : ℚ) * (2 : ℚ) ^ ((e1 : ℤ) - 150) * 256⌋ 32767) ∧
      WithinLmax (quant w)

/-- INIT builds a fresh context from the input buffer and writes nothing else (rule R106). -/
def Obligations.InitBuildsAFreshContext : Prop :=
  ∀ s : State,
    (∀ b, (h : b < 174) → s.initContext.l[b] = quant s.llrBuf[b] ∧
      s.initContext.tot[b] = quant s.llrBuf[b] ∧
      ∀ j, (h' : j < 3) → s.initContext.q[b][j] = quant s.llrBuf[b] ∧
        s.initContext.r[b][j] = 0) ∧
    s.initContext = { s with
      l := s.initContext.l, q := s.initContext.q, r := s.initContext.r, tot := s.initContext.tot
      cw := 0, syn := 0, pld := 0, iter := 0, pv := .notRun, synv := false, sok := false }

/-- C2B sends to position k of every check the product of the signs times the smallest magnitude of
the other positions' messages, computed from the old Q, and writes only R (rule R108). -/
def Obligations.CheckMessagesAreMinSumOfTheOthers : Prop :=
  ∀ s : State, s.graph.wf = true →
    (∀ c k, c < 83 → k < s.graph.deg c → ∀ (b : Nat → Nat) (q : Nat → Int),
      (∀ n, b n = (s.graph.bitsOf c).getD n 0) →
      (∀ n, q n = messageAt s.q (b n) (s.graph.slot (b n) c)) →
      ∃ m : Nat,
        (∃ n ∈ (Finset.range (s.graph.deg c)).erase k, (q n).natAbs = m) ∧
        (∀ n ∈ (Finset.range (s.graph.deg c)).erase k, m ≤ (q n).natAbs) ∧
        messageAt s.c2b.r (b k) (s.graph.slot (b k) c) =
          (∏ n ∈ (Finset.range (s.graph.deg c)).erase k, (if q n < 0 then -1 else 1 : Int)) * m) ∧
    s.c2b = { s with r := s.c2b.r }

/-- B2C: the total is the channel LLR plus the three new check messages, each bit message the total
less its own check's, clamped to ±32767; only TOT and Q are written (rule R109). -/
def Obligations.BitMessagesAreSaturatedTotals : Prop :=
  ∀ s : State,
    (∀ b, (h : b < 174) →
      s.b2c.tot[b] = s.l[b] + s.r[b][0] + s.r[b][1] + s.r[b][2] ∧
      ∀ j, (h' : j < 3) →
        s.b2c.q[b][j] = max (-32767) (min 32767 (s.b2c.tot[b] - s.r[b][j]))) ∧
    s.b2c = { s with tot := s.b2c.tot, q := s.b2c.q }

/-- HARD: a bit is 1 exactly when its total is at most 0; only CW is written (rule R110). -/
def Obligations.HardDecisionTakesZeroAsOne : Prop :=
  ∀ s : State,
    (∀ b, (h : b < 174) → (s.hard.cw.getLsbD b = true ↔ s.tot[b] ≤ 0)) ∧
    s.hard = { s with cw := s.hard.cw }

/-- SYND: SYN[c] is the parity of the bits of check c, SYNV = 1, SOK says that no check is violated;
nothing else is written (rule R131). -/
def Obligations.SyndIsTheParityOfEveryCheck : Prop :=
  ∀ s : State,
    (∀ c, c < 83 → (s.synd.syn.getLsbD c = true ↔ onesInCheck s.graph s.cw c % 2 = 1)) ∧
    (s.synd.sok = true ↔ IsCodeword s.graph s.cw) ∧
    s.synd = { s with syn := s.synd.syn, synv := true, sok := s.synd.sok }

/-- PAYV: Valid with the payload when the 14 checksum bits match element by element, otherwise
ChecksumMismatch with a zero payload; nothing else is written (rule R141). -/
def Obligations.PayvComparesTheChecksum : Prop :=
  ∀ (s : State) (p : Payload), (∀ i, i < 77 → p.getLsbD i = s.cw.getLsbD i) →
    ((∀ i, i < 14 → (checksumBy s.checksumUnit p).getLsbD i = s.cw.getLsbD (77 + i)) →
      s.payv = { s with pv := .valid, pld := p }) ∧
    ((∃ i, i < 14 ∧ (checksumBy s.checksumUnit p).getLsbD i ≠ s.cw.getLsbD (77 + i)) →
      s.payv = { s with pv := .checksumMismatch, pld := 0 })

/-! ## DEC (`41_decode.md` rules R104 to R115) -/

/-- A DEC that passes its precondition is INIT, then n passes of ITER + 1, C2B, B2C, HARD, SYND, n
the first pass that satisfies every check or else MAXITER, then PAYV for Converged only (rule R111;
steps 2 to 4 of rule R104). -/
def Obligations.DecIsTheIteratedMicroOperations : Prop :=
  ∀ (s : State) (x : Nat → State), s.gfail = false → s.llrCnt.toNat = 174 → s.FiniteInput →
    1 ≤ s.maxIter.toNat →
    x 0 = { s with iil := false, iin := false }.initContext →
    (∀ k, x (k + 1) = { x k with iter := (x k).iter + 1 }.c2b.b2c.hard.synd) →
      ∃ n, 1 ≤ n ∧ n ≤ s.maxIter.toNat ∧ (∀ k, 1 ≤ k → k < n → (x k).sok = false) ∧
        (((x n).sok = true ∧
            exec (.dec 0 0) s = .next
              ({ x n with res := .converged }.payv.answered
                { x n with res := .converged }.payv.status)) ∨
          ((x n).sok = false ∧ n = s.maxIter.toNat ∧
            exec (.dec 0 0) s = .next
              ({ x n with res := .maxIterationsExceeded }.answered
                { x n with res := .maxIterationsExceeded }.status)))

/-- DEC ends after 1 to MAXITER iterations: Converged with every check satisfied, or
MaxIterationsExceeded with ITER = MAXITER and some check violated; it answers OK with STATUS, and
leaves LLRBUF, LLRCNT, MAXITER, CERR, GFAIL and the parameters as they were (rules R104, R113). -/
def Obligations.DecEndsWithinItsBudget : Prop :=
  ∀ s : State, s.gfail = false → s.llrCnt.toNat = 174 → s.FiniteInput → 1 ≤ s.maxIter.toNat →
    ∃ t : State, exec (.dec 0 0) s = .next t ∧
      t.response = some (responseWord .ok t.status) ∧
      1 ≤ t.iter.toNat ∧ t.iter.toNat ≤ s.maxIter.toNat ∧
      t.synv = true ∧ t.iil = false ∧ t.iin = false ∧
      ((t.res = .converged ∧ t.sok = true ∧ IsCodeword s.graph t.cw) ∨
        (t.res = .maxIterationsExceeded ∧ t.sok = false ∧ ¬IsCodeword s.graph t.cw ∧
          t.iter = s.maxIter)) ∧
      t.llrBuf = s.llrBuf ∧ t.llrCnt = s.llrCnt ∧ t.maxIter = s.maxIter ∧ t.cerr = s.cerr ∧
      t.gfail = s.gfail ∧ t.graph = s.graph ∧ t.checksumUnit = s.checksumUnit ∧
      t.phase = s.phase ∧ t.commands = s.commands

/-- The sequencer, run phase by phase from INIT, reaches IDLE in the state DEC leaves (rules R31,
R105; that exec runs DEC as one function and the ticks give its order is the model's reading, log
entry 6). -/
def Obligations.SequencerTicksAreOneDec : Prop :=
  ∀ s t : State, s.phase = .idle → s.gfail = false → s.llrCnt.toNat = 174 → s.FiniteInput →
    exec (.dec 0 0) s = .next t →
      State.ticks attemptTicks s.startAttempt = { t with response := s.response }

/-- A DEC that ran and reports Converged left a word that satisfies every check; if it also reports
Valid, the payload is the word's and carries its checksum (rules R34 items 3, 4, 7, and R115 a). -/
def Obligations.DecConvergedMeansCodeword : Prop :=
  ∀ (a : AField) (d : DField) (s t : State), exec (.dec a d) s = .next t →
    t.response = some (responseWord .ok t.status) → t.res = .converged →
      IsCodeword t.graph t.cw ∧ t.pv ≠ .notRun ∧
        (t.pv = .valid → t.Received ∧ t.pld = payloadOf t.cw ∧
          checksumBy t.checksumUnit t.pld = checksumOf t.cw)

/-- DEC issued twice in a row gives the same response and the same state both times (rule R104
corner case a). -/
def Obligations.DecIsIdempotent : Prop :=
  ∀ (a : AField) (d : DField) (s t : State),
    exec (.dec a d) s = .next t → exec (.dec a d) t = .next t

/-- What DEC leaves is a function of LLRBUF, LLRCNT, MAXITER, GRAPH and CHECKSUM; CERR and GFAIL pass
through (rule R114). That CERR shows in the response, as bit 9 and in no other bit, is the model's
reading (log entry 17). -/
def Obligations.DecDependsOnlyOnItsInput : Prop :=
  ∀ s u s' u' : State, s.gfail = false → u.gfail = false →
    s.llrBuf = u.llrBuf → s.llrCnt = u.llrCnt → s.maxIter = u.maxIter → s.graph = u.graph →
    s.checksumUnit = u.checksumUnit →
    exec (.dec 0 0) s = .next s' → exec (.dec 0 0) u = .next u' →
      (s'.cw = u'.cw ∧ s'.pld = u'.pld ∧ s'.syn = u'.syn ∧ s'.l = u'.l ∧ s'.q = u'.q ∧
        s'.r = u'.r ∧ s'.tot = u'.tot ∧ s'.iter = u'.iter ∧ s'.res = u'.res ∧ s'.pv = u'.pv ∧
        s'.synv = u'.synv ∧ s'.sok = u'.sok ∧ s'.iil = u'.iil ∧ s'.iin = u'.iin) ∧
      s'.cerr = s.cerr ∧ s'.gfail = s.gfail ∧
      ∃ x y : ResponseWord, s'.response = some x ∧ u'.response = some y ∧
        x.getLsbD 9 = s.cerr ∧ y.getLsbD 9 = u.cerr ∧
        ∀ i, i ≠ 9 → x.getLsbD i = y.getLsbD i

/-- A budget that sufficed still gives the same result when it is raised: DEC's states do not
depend on iterations it did not need (rules R113, R114, R189). -/
def Obligations.LargerBudgetKeepsAConvergedResult : Prop :=
  ∀ (s t : State) (m : BitVec 8), 1 ≤ s.maxIter.toNat → s.maxIter.toNat ≤ m.toNat →
    exec (.dec 0 0) s = .next t → t.res = .converged →
      exec (.dec 0 0) { s with maxIter := m } = .next { t with maxIter := m }

/-- The vector of no information (every word quantises to 0) never converges, on any well-formed
GRAPH: the budget is used up, CW is all ones, the 24 checks of degree 7 are violated and no payload
is validated (the spec's own inference, rule R115 d). -/
def Obligations.NoInformationExhaustsTheBudget : Prop :=
  ∀ s : State, s.graph.wf = true → s.gfail = false → s.llrCnt.toNat = 174 → s.FiniteInput →
    1 ≤ s.maxIter.toNat → (∀ i, (h : i < 174) → quant s.llrBuf[i] = 0) →
      ∃ t : State, exec (.dec 0 0) s = .next t ∧ t.res = .maxIterationsExceeded ∧
        t.iter = s.maxIter ∧ t.cw = BitVec.allOnes 174 ∧ t.pv = .notRun ∧ t.pld = 0 ∧
        (∀ c, c < 83 → (t.syn.getLsbD c = true ↔ s.graph.deg c = 7)) ∧
        ((List.range 83).filter fun c => t.syn.getLsbD c).length = 24

/-- A noiseless codeword at any one nonzero magnitude decodes to itself in the first iteration, on
any well-formed GRAPH (the spec's own inference, `95_test_vectors.md` program P3). -/
def Obligations.NoiselessCodewordDecodesAtOnce : Prop :=
  ∀ (s : State) (w : Codeword) (m : Int), s.graph.wf = true → s.gfail = false →
    s.llrCnt.toNat = 174 → s.FiniteInput → 1 ≤ s.maxIter.toNat → IsCodeword s.graph w → 0 < m →
    (∀ i, (h : i < 174) → quant s.llrBuf[i] = if w.getLsbD i then -m else m) →
      ∃ t : State, exec (.dec 0 0) s = .next t ∧ t.res = .converged ∧ t.iter = 1 ∧ t.cw = w ∧
        t.syn = 0 ∧
        (∀ b, (h : b < 174) → t.tot[b] = (4 : Int) * t.l[b] ∧
          ∀ j, (h' : j < 3) → t.r[b][j] = t.l[b]) ∧
        (checksumBy s.checksumUnit (payloadOf w) = checksumOf w →
          t.pv = .valid ∧ t.pld = payloadOf w) ∧
        (checksumBy s.checksumUnit (payloadOf w) ≠ checksumOf w →
          t.pv = .checksumMismatch ∧ t.pld = 0)

/-- After a DEC command that passed the common checks, the one positive and the three negative
outcomes are four different STATUS values; its response code is OK but for InputInvalid (rule
R146). -/
def Obligations.DecOutcomesAreReportedDistinctly : Prop :=
  ∀ s : State, s.gfail = false → ∃ t : State, exec (.dec 0 0) s = .next t ∧
    ((t.res = .converged ∧ t.pv = .valid ∧ t.status.toNat % 16 = 5 ∧
        t.response = some (responseWord .ok t.status)) ∨
      (t.res = .converged ∧ t.pv = .checksumMismatch ∧ t.status.toNat % 16 = 9 ∧
        t.response = some (responseWord .ok t.status)) ∨
      (t.res = .maxIterationsExceeded ∧ t.pv = .notRun ∧ t.status.toNat % 16 = 2 ∧
        t.response = some (responseWord .ok t.status)) ∨
      (t.res = .inputInvalid ∧ t.pv = .notRun ∧ t.status.toNat % 16 = 3 ∧
        t.response = some (responseWord .errInput t.status)))

/-! ## The other commands: result and frame, and the refusals of rule R172 -/

/-- NOP answers OK, 0 and changes nothing, also while GFAIL = 1 (rule R150). -/
def Obligations.NopOnlyAnswers : Prop :=
  ∀ (a : AField) (d : DField) (s : State),
    (a = 0 → d = 0 → exec (.nop a d) s = .next (s.answered 0)) ∧
    (a ≠ 0 ∨ d ≠ 0 → exec (.nop a d) s = .next s.operandRefused)

/-- After CLR the context is its reset state but for MAXITER and CERR (rule R151); GFAIL, PHASE and
the command port are not CLR's to write. -/
def Obligations.ClrMakesTheContextFresh : Prop :=
  ∀ (a : AField) (d : DField) (s : State),
    (s.gfail = true → exec (.clr a d) s = .next s.graphRefused) ∧
    (s.gfail = false → a ≠ 0 ∨ d ≠ 0 → exec (.clr a d) s = .next s.operandRefused) ∧
    (s.gfail = false → a = 0 → d = 0 → exec (.clr a d) s = .next
      { State.resetWith s.graph s.checksumUnit with
        maxIter := s.maxIter, cerr := s.cerr, gfail := s.gfail, phase := s.phase
        commands := s.commands, response := some (responseWord .ok 0) })

/-- GCHK writes GFAIL from the graph check and answers it, whatever GFAIL was (rule R90). -/
def Obligations.GchkRunsTheGraphCheck : Prop :=
  ∀ (a : AField) (d : DField) (s : State),
    (a ≠ 0 ∨ d ≠ 0 → exec (.gchk a d) s = .next s.operandRefused) ∧
    (a = 0 → d = 0 → s.graph.wf = true →
      exec (.gchk a d) s = .next ({ s with gfail := false }.answered 0)) ∧
    (a = 0 → d = 0 → s.graph.wf = false →
      exec (.gchk a d) s = .next ({ s with gfail := true }.answered 1))

/-- SETIT sets MAXITER to D for D in 1..255 and refuses every other D (rule R103). -/
def Obligations.SetitSetsTheBudget : Prop :=
  ∀ (a : AField) (d : DField) (s : State),
    (s.gfail = true → exec (.setit a d) s = .next s.graphRefused) ∧
    (s.gfail = false → a ≠ 0 ∨ d.toNat = 0 ∨ 255 < d.toNat →
      exec (.setit a d) s = .next s.operandRefused) ∧
    (s.gfail = false → a = 0 → 1 ≤ d.toNat → d.toNat ≤ 255 →
      exec (.setit a d) s = .next ({ s with maxIter := BitVec.ofNat 8 d.toNat }.answered 0))

/-- LLRP stores D at element LLRCNT while that is below 174, counts up to 255, and answers the new
count; nothing else changes (rule R100). -/
def Obligations.LlrpPushesOneValue : Prop :=
  ∀ (a : AField) (d : DField) (s : State),
    (s.gfail = true → exec (.llrp a d) s = .next s.graphRefused) ∧
    (s.gfail = false → a ≠ 0 → exec (.llrp a d) s = .next s.operandRefused) ∧
    (s.gfail = false → a = 0 → ∃ t : State,
      t = { s with llrBuf := t.llrBuf, llrCnt := t.llrCnt } ∧
      t.llrCnt.toNat = min (s.llrCnt.toNat + 1) 255 ∧
      (∀ i, (h : i < 174) → t.llrBuf[i] = if i = s.llrCnt.toNat then d else s.llrBuf[i]) ∧
      exec (.llrp a d) s = .next (t.answered (BitVec.ofNat 32 t.llrCnt.toNat)))

/-- CWW writes elements 32A to 32A + 31 of CW, as far as it goes, clears every result that described
the old word, and answers OK, 0; nothing else changes (rule R130). -/
def Obligations.CwwWritesOneCodewordWord : Prop :=
  ∀ (a : AField) (d : DField) (s : State),
    (s.gfail = true → exec (.cww a d) s = .next s.graphRefused) ∧
    (s.gfail = false → 5 < a.toNat ∨ (a.toNat = 5 ∧ d.toNat / 2 ^ 14 ≠ 0) →
      exec (.cww a d) s = .next s.operandRefused) ∧
    (s.gfail = false → a.toNat < 5 ∨ (a.toNat = 5 ∧ d.toNat / 2 ^ 14 = 0) → ∃ t : State,
      t = { s with
        cw := t.cw, res := .none, pv := .notRun, synv := false, sok := false, iil := false
        iin := false, syn := 0, pld := 0 } ∧
      (∀ i, i < 174 → t.cw.getLsbD i =
        if 32 * a.toNat ≤ i ∧ i ≤ 32 * a.toNat + 31 then d.getLsbD (i - 32 * a.toNat)
        else s.cw.getLsbD i) ∧
      exec (.cww a d) s = .next (t.answered 0))

/-- SYN computes the syndrome of CW and answers the number of violated checks; only SYN, SYNV and SOK
change (rule R132). -/
def Obligations.SynCountsTheViolatedChecks : Prop :=
  ∀ (a : AField) (d : DField) (s : State),
    (s.gfail = true → exec (.syn a d) s = .next s.graphRefused) ∧
    (s.gfail = false → a ≠ 0 ∨ d ≠ 0 → exec (.syn a d) s = .next s.operandRefused) ∧
    (s.gfail = false → a = 0 → d = 0 → ∃ t : State,
      t = { s with syn := t.syn, synv := true, sok := t.sok } ∧
      (∀ c, c < 83 → (t.syn.getLsbD c = true ↔ onesInCheck s.graph s.cw c % 2 = 1)) ∧
      (t.sok = true ↔ IsCodeword s.graph s.cw) ∧
      exec (.syn a d) s = .next (t.answered (BitVec.ofNat 32
        ((List.range 83).filter fun c => onesInCheck s.graph s.cw c % 2 == 1).length)))

/-- PAY writes PV and PLD by the checksum test on CW and answers PV, 1 for Valid and 2 for
ChecksumMismatch; only PV and PLD change (rule R142). -/
def Obligations.PayReportsTheValidity : Prop :=
  ∀ (a : AField) (d : DField) (s : State),
    (s.gfail = true → exec (.pay a d) s = .next s.graphRefused) ∧
    (s.gfail = false → a ≠ 0 ∨ d ≠ 0 → exec (.pay a d) s = .next s.operandRefused) ∧
    (s.gfail = false → a = 0 → d = 0 →
      checksumBy s.checksumUnit (payloadOf s.cw) = checksumOf s.cw →
      exec (.pay a d) s = .next ({ s with pv := .valid, pld := payloadOf s.cw }.answered 1)) ∧
    (s.gfail = false → a = 0 → d = 0 →
      checksumBy s.checksumUnit (payloadOf s.cw) ≠ checksumOf s.cw →
      exec (.pay a d) s = .next ({ s with pv := .checksumMismatch, pld := 0 }.answered 2))

/-- RDST answers the STATUS word, field by field at the weights of rule R29, and changes nothing,
also while GFAIL = 1 (rules R29, R152). -/
def Obligations.RdstReadsTheStatusWord : Prop :=
  ∀ (a : AField) (d : DField) (s : State),
    (a ≠ 0 ∨ d ≠ 0 → exec (.rdst a d) s = .next s.operandRefused) ∧
    (a = 0 → d = 0 → ∃ v : BitVec 32,
      v.toNat =
        (match s.res with
          | .none => 0 | .converged => 1 | .maxIterationsExceeded => 2 | .inputInvalid => 3) +
        2 ^ 2 * (match s.pv with | .notRun => 0 | .valid => 1 | .checksumMismatch => 2) +
        2 ^ 4 * s.synv.toNat + 2 ^ 5 * s.sok.toNat + 2 ^ 6 * s.iil.toNat + 2 ^ 7 * s.iin.toNat +
        2 ^ 8 * s.gfail.toNat + 2 ^ 9 * s.cerr.toNat + 2 ^ 16 * s.llrCnt.toNat ∧
      exec (.rdst a d) s = .next (s.answered v))

/-- RDIT answers ITER and MAXITER and changes nothing (rules R30, R153). -/
def Obligations.RditReadsIterationsAndBudget : Prop :=
  ∀ (a : AField) (d : DField) (s : State),
    (s.gfail = true → exec (.rdit a d) s = .next s.graphRefused) ∧
    (s.gfail = false → a ≠ 0 ∨ d ≠ 0 → exec (.rdit a d) s = .next s.operandRefused) ∧
    (s.gfail = false → a = 0 → d = 0 → ∃ v : BitVec 32,
      v.toNat = s.iter.toNat + 2 ^ 8 * s.maxIter.toNat ∧
      exec (.rdit a d) s = .next (s.answered v))

/-- RDCW answers word A of CW, its bit i being element 32A + i and 0 past the end, all words 0 of a
zero CW, and changes nothing (rule R133, packing of rule R52). -/
def Obligations.RdcwReadsACodewordWord : Prop :=
  ∀ (a : AField) (d : DField) (s : State),
    (s.gfail = true → exec (.rdcw a d) s = .next s.graphRefused) ∧
    (s.gfail = false → d ≠ 0 ∨ 5 < a.toNat → exec (.rdcw a d) s = .next s.operandRefused) ∧
    (s.gfail = false → d = 0 → a.toNat ≤ 5 → ∃ v : BitVec 32,
      (∀ i, i < 32 → v.getLsbD i =
        if 32 * a.toNat + i < 174 then s.cw.getLsbD (32 * a.toNat + i) else false) ∧
      (s.cw = 0 → v = 0) ∧
      exec (.rdcw a d) s = .next (s.answered v))

/-- RDPL answers word A of PLD, 0 unless PV = Valid, and changes nothing (rule R143, packing of rule
R52). -/
def Obligations.RdplReadsAPayloadWord : Prop :=
  ∀ (a : AField) (d : DField) (s : State),
    (s.gfail = true → exec (.rdpl a d) s = .next s.graphRefused) ∧
    (s.gfail = false → d ≠ 0 ∨ 2 < a.toNat → exec (.rdpl a d) s = .next s.operandRefused) ∧
    (s.gfail = false → d = 0 → a.toNat ≤ 2 → ∃ v : BitVec 32,
      (∀ i, i < 32 → v.getLsbD i =
        if 32 * a.toNat + i < 77 then s.pld.getLsbD (32 * a.toNat + i) else false) ∧
      (s.Inv → s.pv ≠ .valid → v = 0) ∧
      exec (.rdpl a d) s = .next (s.answered v))

/-- RDSY answers word A of SYN, 0 while SYNV = 0, and changes nothing (rule R134, packing of rule
R52). -/
def Obligations.RdsyReadsASyndromeWord : Prop :=
  ∀ (a : AField) (d : DField) (s : State),
    (s.gfail = true → exec (.rdsy a d) s = .next s.graphRefused) ∧
    (s.gfail = false → d ≠ 0 ∨ 2 < a.toNat → exec (.rdsy a d) s = .next s.operandRefused) ∧
    (s.gfail = false → d = 0 → a.toNat ≤ 2 → ∃ v : BitVec 32,
      (∀ i, i < 32 → v.getLsbD i =
        if 32 * a.toNat + i < 83 then s.syn.getLsbD (32 * a.toNat + i) else false) ∧
      (s.Inv → s.synv = false → v = 0) ∧
      exec (.rdsy a d) s = .next (s.answered v))

/-- RDLLR answers L[A] as a 32-bit two's complement word and changes nothing (rule R154). -/
def Obligations.RdllrReadsAChannelLlr : Prop :=
  ∀ (a : AField) (d : DField) (s : State),
    (s.gfail = true → exec (.rdllr a d) s = .next s.graphRefused) ∧
    (s.gfail = false → d ≠ 0 ∨ 173 < a.toNat → exec (.rdllr a d) s = .next s.operandRefused) ∧
    (s.gfail = false → d = 0 → (h : a.toNat < 174) →
      exec (.rdllr a d) s = .next (s.answered (BitVec.ofInt 32 s.l[a.toNat])))

/-- RDTOT answers TOT[A] as a 32-bit two's complement word and changes nothing (rule R155). -/
def Obligations.RdtotReadsATotal : Prop :=
  ∀ (a : AField) (d : DField) (s : State),
    (s.gfail = true → exec (.rdtot a d) s = .next s.graphRefused) ∧
    (s.gfail = false → d ≠ 0 ∨ 173 < a.toNat → exec (.rdtot a d) s = .next s.operandRefused) ∧
    (s.gfail = false → d = 0 → (h : a.toNat < 174) →
      exec (.rdtot a d) s = .next (s.answered (BitVec.ofInt 32 s.tot[a.toNat])))

/-- RDMSG answers Q[b][j] or R[b][j], b, j and the direction being A[7:0], A[9:8] and A[10], and
changes nothing (rules R54, R156). -/
def Obligations.RdmsgReadsAnEdgeMessage : Prop :=
  ∀ (a : AField) (d : DField) (s : State),
    (s.gfail = true → exec (.rdmsg a d) s = .next s.graphRefused) ∧
    (s.gfail = false →
      d ≠ 0 ∨ a.toNat / 2 ^ 11 ≠ 0 ∨ 173 < a.toNat % 2 ^ 8 ∨ a.toNat / 2 ^ 8 % 4 = 3 →
      exec (.rdmsg a d) s = .next s.operandRefused) ∧
    (s.gfail = false → d = 0 → a.toNat / 2 ^ 11 = 0 → (h : a.toNat % 2 ^ 8 < 174) →
      (h' : a.toNat / 2 ^ 8 % 4 < 3) →
      exec (.rdmsg a d) s = .next (s.answered (BitVec.ofInt 32
        (if a.toNat / 2 ^ 10 % 2 = 0 then s.q[a.toNat % 2 ^ 8][a.toNat / 2 ^ 8 % 4]
          else s.r[a.toNat % 2 ^ 8][a.toNat / 2 ^ 8 % 4]))))

/-- CHKOF answers the three checks of bit A, 0-based, in ROM order from the low byte up, and changes
nothing (rules R49, R91). -/
def Obligations.ChkofReadsTheChecksOfABit : Prop :=
  ∀ (a : AField) (d : DField) (s : State),
    (s.gfail = true → exec (.chkof a d) s = .next s.graphRefused) ∧
    (s.gfail = false → d ≠ 0 ∨ 173 < a.toNat → exec (.chkof a d) s = .next s.operandRefused) ∧
    (s.gfail = false → d = 0 → (h : a.toNat < 174) → ∃ v : BitVec 32,
      v.toNat = (s.graph.mn[a.toNat][0].toNat - 1) + 2 ^ 8 * (s.graph.mn[a.toNat][1].toNat - 1) +
        2 ^ 16 * (s.graph.mn[a.toNat][2].toNat - 1) ∧
      exec (.chkof a d) s = .next (s.answered v))

/-- BITOF answers half w of the bits of check c, 0xFF standing where there is no seventh bit, and
changes nothing; c is A[7:0] and w is A[8] (rules R54, R92). -/
def Obligations.BitofReadsTheBitsOfACheck : Prop :=
  ∀ (a : AField) (d : DField) (s : State) (e : Nat → Nat),
    (∀ k, e k = if k < s.graph.deg (a.toNat % 2 ^ 8) then
      (s.graph.bitsOf (a.toNat % 2 ^ 8)).getD k 0 else 0xFF) →
    (s.gfail = true → exec (.bitof a d) s = .next s.graphRefused) ∧
    (s.gfail = false → d ≠ 0 ∨ a.toNat / 2 ^ 9 ≠ 0 ∨ 82 < a.toNat % 2 ^ 8 →
      exec (.bitof a d) s = .next s.operandRefused) ∧
    (s.gfail = false → d = 0 → a.toNat / 2 ^ 9 = 0 → a.toNat % 2 ^ 8 ≤ 82 → ∃ v : BitVec 32,
      v.toNat = (if a.toNat / 2 ^ 8 % 2 = 0 then
          e 0 + 2 ^ 8 * e 1 + 2 ^ 16 * e 2 + 2 ^ 24 * e 3
        else e 4 + 2 ^ 8 * e 5 + 2 ^ 16 * e 6 + 2 ^ 24 * s.graph.deg (a.toNat % 2 ^ 8)) ∧
      exec (.bitof a d) s = .next (s.answered v))

/-- ROMRD answers the raw entry at a mapped address, NM_RAW row-major from 0 and MN_RAW row-major
from 0x400, refuses an unmapped one, and changes nothing, whatever GFAIL is (rules R41, R93). -/
def Obligations.RomrdReadsARawEntry : Prop :=
  ∀ (a : AField) (d : DField) (s : State),
    (d ≠ 0 ∨ (0x245 ≤ a.toNat ∧ a.toNat ≤ 0x3FF) ∨ 0x60A ≤ a.toNat →
      exec (.romrd a d) s = .next s.operandRefused) ∧
    (∀ c k, (h : c < 83) → (h' : k < 7) → d = 0 → a.toNat = 7 * c + k →
      exec (.romrd a d) s = .next (s.answered (BitVec.ofNat 32 s.graph.nm[c][k].toNat))) ∧
    (∀ b j, (h : b < 174) → (h' : j < 3) → d = 0 → a.toNat = 0x400 + 3 * b + j →
      exec (.romrd a d) s = .next (s.answered (BitVec.ofNat 32 s.graph.mn[b][j].toNat)))

/-! ## The whole machine -/

/-- Reset leaves every element at the value of rule R35 and GFAIL at what the graph check says
(rules R35, R201), on hardware with any ROM and any checksum: at power-up, applied from outside to a
context in any state, and applied to a running block, where it acts on every context at once. -/
def Obligations.ResetLeavesTheStatedValues : Prop :=
  (∀ (g : GraphRom) (u : ChecksumUnit) (s : State),
    (s = State.resetWith g u ∨
      (∃ r : State, r.graph = g ∧ r.checksumUnit = u ∧ s = r.externalReset) ∨
      ∃ (b : Block) (k : Nat) (r : State), b.contexts[k]? = some r ∧ r.graph = g ∧
        r.checksumUnit = u ∧ b.externalReset.contexts[k]? = some s) →
    s.phase = .idle ∧ s.cw = 0 ∧ s.pld = 0 ∧ s.syn = 0 ∧
    (∀ i, (h : i < 174) → s.llrBuf[i] = 0 ∧ s.l[i] = 0 ∧ s.tot[i] = 0 ∧
      ∀ j, (h' : j < 3) → s.q[i][j] = 0 ∧ s.r[i][j] = 0) ∧
    s.llrCnt = 0 ∧ s.iter = 0 ∧ s.maxIter = 25 ∧ s.res = .none ∧ s.pv = .notRun ∧
    s.synv = false ∧ s.sok = false ∧ s.iil = false ∧ s.iin = false ∧ s.cerr = false ∧
    (s.gfail = false ↔ g.wf = true) ∧ s.graph = g ∧ s.checksumUnit = u) ∧
  ∀ b : Block, b.externalReset.contexts.length = b.contexts.length

/-- The invariants, and items 4 to 6 of rule R34 whole, hold right after reset, on any hardware and
on the reset state of the machine (rules R34, R35, as log entry 10 reads R34; the hardware of
`State.reset` is the model's choice, log entries 2 and 3). -/
def Obligations.InvariantsHoldAfterReset : Prop :=
  (∀ (g : GraphRom) (u : ChecksumUnit) (s : State), s = State.resetWith g u →
    s.Inv ∧ s.ConvergedItem ∧ s.ExceededItem ∧ s.InvalidItem) ∧
  State.reset.Inv ∧ State.reset.ConvergedItem ∧ State.reset.ExceededItem ∧ State.reset.InvalidItem

/-- Every step keeps the invariants of rule R34, as log entry 10 reads them, and the ranges of rules
R14 to R20, from every state that has them. -/
def Obligations.InvariantsAreKeptByEveryStep : Prop :=
  ∀ s t : State, s.Inv → step s = .next t → t.Inv

/-- Items 4 to 6 of rule R34, whole, hold when a DEC that was not refused as malformed responds, and
after that only SETIT can end item 4, only SETIT and PAY item 5, only SYN and PAY item 6. After any
invalid input SYN sets SYNV and SOK, and PAY sets PV by the checksum of the zero payload, each leaving
RES = InputInvalid, since rules R132 and R142 write these and not RES, and rule R180 has every command
behave as its rule says after a refusal (the model's reading of R34, log entry 10). -/
def Obligations.DecItemsEndOnlyBySetitSynAndPay : Prop :=
  (∀ (a : AField) (d : DField) (s t : State), s.Inv → exec (.dec a d) s = .next t →
    (t.response = some (responseWord .ok t.status) ∨
      t.response = some (responseWord .errInput t.status)) →
    t.ConvergedItem ∧ t.ExceededItem ∧ t.InvalidItem) ∧
  (∀ (i : Instr) (s t : State), s.Inv → exec i s = .next t →
    (s.ConvergedItem → i.opcode ≠ 0x03 → t.ConvergedItem) ∧
    (s.ExceededItem → i.opcode ≠ 0x03 → i.opcode ≠ 0x14 → t.ExceededItem) ∧
    (s.InvalidItem → i.opcode ≠ 0x13 → i.opcode ≠ 0x14 → t.InvalidItem)) ∧
  ∀ s : State, s.Inv → s.gfail = false → s.res = .inputInvalid →
    exec (.syn 0 0) s = .next ({ s with synv := true, sok := true }.answered 0) ∧
    exec (.pay 0 0) s = .next
      (if checksumBy s.checksumUnit 0 = 0 then { s with pv := .valid }.answered 1
        else { s with pv := .checksumMismatch }.answered 2)

/-- Each state element is written only by the commands its rule names; ROM and checksum by none, PHASE
and the command port by no command (rules R11 to R28, R31, R43). -/
def Obligations.OnlyTheNamedCommandsWrite : Prop :=
  ∀ (i : Instr) (s t : State), exec i s = .next t →
    (t.graph = s.graph ∧ t.checksumUnit = s.checksumUnit ∧ t.phase = s.phase ∧
      t.commands = s.commands) ∧
    (i.opcode ≠ 0x11 → i.opcode ≠ 0x01 →
      t.l = s.l ∧ t.q = s.q ∧ t.r = s.r ∧ t.tot = s.tot ∧ t.iter = s.iter) ∧
    (i.opcode ≠ 0x11 → i.opcode ≠ 0x01 → i.opcode ≠ 0x12 →
      t.cw = s.cw ∧ t.res = s.res ∧ t.iil = s.iil ∧ t.iin = s.iin) ∧
    (i.opcode ≠ 0x11 → i.opcode ≠ 0x01 → i.opcode ≠ 0x12 → i.opcode ≠ 0x13 →
      t.syn = s.syn ∧ t.synv = s.synv ∧ t.sok = s.sok) ∧
    (i.opcode ≠ 0x11 → i.opcode ≠ 0x01 → i.opcode ≠ 0x12 → i.opcode ≠ 0x14 →
      t.pld = s.pld ∧ t.pv = s.pv) ∧
    (i.opcode ≠ 0x10 → i.opcode ≠ 0x01 → t.llrBuf = s.llrBuf ∧ t.llrCnt = s.llrCnt) ∧
    (i.opcode ≠ 0x03 → t.maxIter = s.maxIter) ∧
    (i.opcode ≠ 0x02 → t.gfail = s.gfail)

/-- CERR is set by every ERR_OPCODE and ERR_OPERAND response and cleared by no step (rule R28). -/
def Obligations.CerrRecordsMalformedCommands : Prop :=
  ∀ s t : State, step s = .next t →
    (t.cerr = true ↔ s.cerr = true ∨ (s.commands ≠ [] ∧
      (t.response = some (responseWord .errOpcode 0) ∨
        t.response = some (responseWord .errOperand 0))))

/-- Contexts do not interfere: after any schedule each context is where its own steps alone take it,
so every interleaving gives the same block; and all contexts leave reset alike (rules R58, R188; the
block as a list of contexts run under a schedule is the model's, log entry 1). -/
def Obligations.ContextsDoNotInterfere : Prop :=
  (∀ (b : Block) (schedule : List Nat) (k : Nat),
    (b.run schedule).contexts[k]? =
      (b.contexts[k]?).map (State.advanceBy (schedule.count k))) ∧
  (∀ (b : Block) (schedule schedule' : List Nat), schedule.Perm schedule' →
    b.run schedule = b.run schedule') ∧
  ∀ (g : GraphRom) (u : ChecksumUnit) (k : Nat), k < Config.nctx →
    (Block.powerUp g u).contexts[k]? = some (State.resetWith g u)

/-- SYND is linear in CW: on one GRAPH, the syndrome of the XOR of two words is the XOR of their
syndromes. So the words SYND gives SOK = 1, which are the codewords, contain the zero word and are
closed under XOR (the spec's own inference, rule R135). -/
def Obligations.CodewordsAreClosedUnderXor : Prop :=
  (∀ s u v : State, u.graph = s.graph → v.graph = s.graph → v.cw = s.cw ^^^ u.cw →
    v.synd.syn = s.synd.syn ^^^ u.synd.syn ∧
      (s.synd.sok = true → u.synd.sok = true → v.synd.sok = true)) ∧
  (∀ s : State, s.cw = 0 → s.synd.syn = 0 ∧ s.synd.sok = true) ∧
  (∀ s : State, s.synd.sok = true ↔ IsCodeword s.graph s.cw) ∧
  ∀ g : GraphRom, IsCodeword g 0 ∧
    ∀ x y : Codeword, IsCodeword g x → IsCodeword g y → IsCodeword g (x ^^^ y)

/-- A run of LLRP commands from an empty count stores the n-th value at element n − 1 and no value
past the 174th, and counts them all up to 255 (rules R16, R80, R100). -/
def Obligations.PushesFillTheBufferInOrder : Prop :=
  ∀ (s t : State) (ds : List DField), s.gfail = false → s.llrCnt = 0 →
    s.commands = (Pseudo.llrv ds).expand.map encode →
    t = State.advanceBy ds.length s →
      t.commands = [] ∧ t.llrCnt.toNat = min ds.length 255 ∧
      (∀ i, (h : i < 174) → t.llrBuf[i] = ds.getD i s.llrBuf[i]) ∧
      t = { s with
        commands := [], llrBuf := t.llrBuf, llrCnt := t.llrCnt, response := t.response }
end

