-- ==== Sys2Proof/Laws/State.lean ====
section
/-! SUPPORT. What each update of State leaves in each field, true by unfolding it once. -/

namespace Sys2Proof.Machine


section respond

variable (s : State) (rc : ResponseCode) (data : BitVec 32)

@[simp] theorem State.respond_graph : (s.respond rc data).graph = s.graph := rfl
@[simp] theorem State.respond_checksumUnit : (s.respond rc data).checksumUnit = s.checksumUnit := rfl
@[simp] theorem State.respond_phase : (s.respond rc data).phase = s.phase := rfl
@[simp] theorem State.respond_cw : (s.respond rc data).cw = s.cw := rfl
@[simp] theorem State.respond_pld : (s.respond rc data).pld = s.pld := rfl
@[simp] theorem State.respond_syn : (s.respond rc data).syn = s.syn := rfl
@[simp] theorem State.respond_llrBuf : (s.respond rc data).llrBuf = s.llrBuf := rfl
@[simp] theorem State.respond_llrCnt : (s.respond rc data).llrCnt = s.llrCnt := rfl
@[simp] theorem State.respond_l : (s.respond rc data).l = s.l := rfl
@[simp] theorem State.respond_q : (s.respond rc data).q = s.q := rfl
@[simp] theorem State.respond_r : (s.respond rc data).r = s.r := rfl
@[simp] theorem State.respond_tot : (s.respond rc data).tot = s.tot := rfl
@[simp] theorem State.respond_iter : (s.respond rc data).iter = s.iter := rfl
@[simp] theorem State.respond_maxIter : (s.respond rc data).maxIter = s.maxIter := rfl
@[simp] theorem State.respond_res : (s.respond rc data).res = s.res := rfl
@[simp] theorem State.respond_pv : (s.respond rc data).pv = s.pv := rfl
@[simp] theorem State.respond_synv : (s.respond rc data).synv = s.synv := rfl
@[simp] theorem State.respond_sok : (s.respond rc data).sok = s.sok := rfl
@[simp] theorem State.respond_iil : (s.respond rc data).iil = s.iil := rfl
@[simp] theorem State.respond_iin : (s.respond rc data).iin = s.iin := rfl
@[simp] theorem State.respond_gfail : (s.respond rc data).gfail = s.gfail := rfl
@[simp] theorem State.respond_cerr : (s.respond rc data).cerr = s.cerr := rfl
@[simp] theorem State.respond_commands : (s.respond rc data).commands = s.commands := rfl
@[simp] theorem State.respond_response : (s.respond rc data).response = some (responseWord rc data) := rfl

end respond

section clearAttempt

variable (s : State)

@[simp] theorem State.clearAttempt_graph : s.clearAttempt.graph = s.graph := rfl
@[simp] theorem State.clearAttempt_checksumUnit : s.clearAttempt.checksumUnit = s.checksumUnit := rfl
@[simp] theorem State.clearAttempt_phase : s.clearAttempt.phase = s.phase := rfl
@[simp] theorem State.clearAttempt_cw : s.clearAttempt.cw = 0 := rfl
@[simp] theorem State.clearAttempt_pld : s.clearAttempt.pld = 0 := rfl
@[simp] theorem State.clearAttempt_syn : s.clearAttempt.syn = 0 := rfl
@[simp] theorem State.clearAttempt_llrBuf : s.clearAttempt.llrBuf = s.llrBuf := rfl
@[simp] theorem State.clearAttempt_llrCnt : s.clearAttempt.llrCnt = s.llrCnt := rfl
@[simp] theorem State.clearAttempt_l : s.clearAttempt.l = zeroBits := rfl
@[simp] theorem State.clearAttempt_q : s.clearAttempt.q = zeroMessages := rfl
@[simp] theorem State.clearAttempt_r : s.clearAttempt.r = zeroMessages := rfl
@[simp] theorem State.clearAttempt_tot : s.clearAttempt.tot = zeroBits := rfl
@[simp] theorem State.clearAttempt_iter : s.clearAttempt.iter = 0 := rfl
@[simp] theorem State.clearAttempt_maxIter : s.clearAttempt.maxIter = s.maxIter := rfl
@[simp] theorem State.clearAttempt_res : s.clearAttempt.res = s.res := rfl
@[simp] theorem State.clearAttempt_pv : s.clearAttempt.pv = .notRun := rfl
@[simp] theorem State.clearAttempt_synv : s.clearAttempt.synv = false := rfl
@[simp] theorem State.clearAttempt_sok : s.clearAttempt.sok = false := rfl
@[simp] theorem State.clearAttempt_iil : s.clearAttempt.iil = s.iil := rfl
@[simp] theorem State.clearAttempt_iin : s.clearAttempt.iin = s.iin := rfl
@[simp] theorem State.clearAttempt_gfail : s.clearAttempt.gfail = s.gfail := rfl
@[simp] theorem State.clearAttempt_cerr : s.clearAttempt.cerr = s.cerr := rfl
@[simp] theorem State.clearAttempt_commands : s.clearAttempt.commands = s.commands := rfl
@[simp] theorem State.clearAttempt_response : s.clearAttempt.response = s.response := rfl

end clearAttempt

section dropResults

variable (s : State)

@[simp] theorem State.dropResults_graph : s.dropResults.graph = s.graph := rfl
@[simp] theorem State.dropResults_checksumUnit : s.dropResults.checksumUnit = s.checksumUnit := rfl
@[simp] theorem State.dropResults_phase : s.dropResults.phase = s.phase := rfl
@[simp] theorem State.dropResults_cw : s.dropResults.cw = s.cw := rfl
@[simp] theorem State.dropResults_pld : s.dropResults.pld = 0 := rfl
@[simp] theorem State.dropResults_syn : s.dropResults.syn = 0 := rfl
@[simp] theorem State.dropResults_llrBuf : s.dropResults.llrBuf = s.llrBuf := rfl
@[simp] theorem State.dropResults_llrCnt : s.dropResults.llrCnt = s.llrCnt := rfl
@[simp] theorem State.dropResults_l : s.dropResults.l = s.l := rfl
@[simp] theorem State.dropResults_q : s.dropResults.q = s.q := rfl
@[simp] theorem State.dropResults_r : s.dropResults.r = s.r := rfl
@[simp] theorem State.dropResults_tot : s.dropResults.tot = s.tot := rfl
@[simp] theorem State.dropResults_iter : s.dropResults.iter = s.iter := rfl
@[simp] theorem State.dropResults_maxIter : s.dropResults.maxIter = s.maxIter := rfl
@[simp] theorem State.dropResults_res : s.dropResults.res = .none := rfl
@[simp] theorem State.dropResults_pv : s.dropResults.pv = .notRun := rfl
@[simp] theorem State.dropResults_synv : s.dropResults.synv = false := rfl
@[simp] theorem State.dropResults_sok : s.dropResults.sok = false := rfl
@[simp] theorem State.dropResults_iil : s.dropResults.iil = false := rfl
@[simp] theorem State.dropResults_iin : s.dropResults.iin = false := rfl
@[simp] theorem State.dropResults_gfail : s.dropResults.gfail = s.gfail := rfl
@[simp] theorem State.dropResults_cerr : s.dropResults.cerr = s.cerr := rfl
@[simp] theorem State.dropResults_commands : s.dropResults.commands = s.commands := rfl
@[simp] theorem State.dropResults_response : s.dropResults.response = s.response := rfl

end dropResults

section pushLlr

variable (s : State) (d : DField)

@[simp] theorem State.pushLlr_graph : (s.pushLlr d).graph = s.graph := rfl
@[simp] theorem State.pushLlr_checksumUnit : (s.pushLlr d).checksumUnit = s.checksumUnit := rfl
@[simp] theorem State.pushLlr_phase : (s.pushLlr d).phase = s.phase := rfl
@[simp] theorem State.pushLlr_cw : (s.pushLlr d).cw = s.cw := rfl
@[simp] theorem State.pushLlr_pld : (s.pushLlr d).pld = s.pld := rfl
@[simp] theorem State.pushLlr_syn : (s.pushLlr d).syn = s.syn := rfl
@[simp] theorem State.pushLlr_llrCnt : (s.pushLlr d).llrCnt = if s.llrCnt = 255#8 then 255#8 else s.llrCnt + 1#8 := rfl
@[simp] theorem State.pushLlr_l : (s.pushLlr d).l = s.l := rfl
@[simp] theorem State.pushLlr_q : (s.pushLlr d).q = s.q := rfl
@[simp] theorem State.pushLlr_r : (s.pushLlr d).r = s.r := rfl
@[simp] theorem State.pushLlr_tot : (s.pushLlr d).tot = s.tot := rfl
@[simp] theorem State.pushLlr_iter : (s.pushLlr d).iter = s.iter := rfl
@[simp] theorem State.pushLlr_maxIter : (s.pushLlr d).maxIter = s.maxIter := rfl
@[simp] theorem State.pushLlr_res : (s.pushLlr d).res = s.res := rfl
@[simp] theorem State.pushLlr_pv : (s.pushLlr d).pv = s.pv := rfl
@[simp] theorem State.pushLlr_synv : (s.pushLlr d).synv = s.synv := rfl
@[simp] theorem State.pushLlr_sok : (s.pushLlr d).sok = s.sok := rfl
@[simp] theorem State.pushLlr_iil : (s.pushLlr d).iil = s.iil := rfl
@[simp] theorem State.pushLlr_iin : (s.pushLlr d).iin = s.iin := rfl
@[simp] theorem State.pushLlr_gfail : (s.pushLlr d).gfail = s.gfail := rfl
@[simp] theorem State.pushLlr_cerr : (s.pushLlr d).cerr = s.cerr := rfl
@[simp] theorem State.pushLlr_commands : (s.pushLlr d).commands = s.commands := rfl
@[simp] theorem State.pushLlr_response : (s.pushLlr d).response = s.response := rfl

end pushLlr

section issueFirst

variable (s : State) (w : CommandWord)

@[simp] theorem State.issueFirst_graph : (s.issueFirst w).graph = s.graph := rfl
@[simp] theorem State.issueFirst_checksumUnit : (s.issueFirst w).checksumUnit = s.checksumUnit := rfl
@[simp] theorem State.issueFirst_phase : (s.issueFirst w).phase = s.phase := rfl
@[simp] theorem State.issueFirst_cw : (s.issueFirst w).cw = s.cw := rfl
@[simp] theorem State.issueFirst_pld : (s.issueFirst w).pld = s.pld := rfl
@[simp] theorem State.issueFirst_syn : (s.issueFirst w).syn = s.syn := rfl
@[simp] theorem State.issueFirst_llrBuf : (s.issueFirst w).llrBuf = s.llrBuf := rfl
@[simp] theorem State.issueFirst_llrCnt : (s.issueFirst w).llrCnt = s.llrCnt := rfl
@[simp] theorem State.issueFirst_l : (s.issueFirst w).l = s.l := rfl
@[simp] theorem State.issueFirst_q : (s.issueFirst w).q = s.q := rfl
@[simp] theorem State.issueFirst_r : (s.issueFirst w).r = s.r := rfl
@[simp] theorem State.issueFirst_tot : (s.issueFirst w).tot = s.tot := rfl
@[simp] theorem State.issueFirst_iter : (s.issueFirst w).iter = s.iter := rfl
@[simp] theorem State.issueFirst_maxIter : (s.issueFirst w).maxIter = s.maxIter := rfl
@[simp] theorem State.issueFirst_res : (s.issueFirst w).res = s.res := rfl
@[simp] theorem State.issueFirst_pv : (s.issueFirst w).pv = s.pv := rfl
@[simp] theorem State.issueFirst_synv : (s.issueFirst w).synv = s.synv := rfl
@[simp] theorem State.issueFirst_sok : (s.issueFirst w).sok = s.sok := rfl
@[simp] theorem State.issueFirst_iil : (s.issueFirst w).iil = s.iil := rfl
@[simp] theorem State.issueFirst_iin : (s.issueFirst w).iin = s.iin := rfl
@[simp] theorem State.issueFirst_gfail : (s.issueFirst w).gfail = s.gfail := rfl
@[simp] theorem State.issueFirst_cerr : (s.issueFirst w).cerr = s.cerr := rfl
@[simp] theorem State.issueFirst_commands : (s.issueFirst w).commands = w :: s.commands := rfl
@[simp] theorem State.issueFirst_response : (s.issueFirst w).response = s.response := rfl

end issueFirst

section initContext

variable (s : State)

@[simp] theorem State.initContext_graph : s.initContext.graph = s.graph := by unfold State.initContext; rfl
@[simp] theorem State.initContext_checksumUnit : s.initContext.checksumUnit = s.checksumUnit := by unfold State.initContext; rfl
@[simp] theorem State.initContext_phase : s.initContext.phase = s.phase := by unfold State.initContext; rfl
@[simp] theorem State.initContext_cw : s.initContext.cw = 0 := by unfold State.initContext; rfl
@[simp] theorem State.initContext_pld : s.initContext.pld = 0 := by unfold State.initContext; rfl
@[simp] theorem State.initContext_syn : s.initContext.syn = 0 := by unfold State.initContext; rfl
@[simp] theorem State.initContext_llrBuf : s.initContext.llrBuf = s.llrBuf := by unfold State.initContext; rfl
@[simp] theorem State.initContext_llrCnt : s.initContext.llrCnt = s.llrCnt := by unfold State.initContext; rfl
@[simp] theorem State.initContext_r : s.initContext.r = zeroMessages := by unfold State.initContext; rfl
@[simp] theorem State.initContext_iter : s.initContext.iter = 0 := by unfold State.initContext; rfl
@[simp] theorem State.initContext_maxIter : s.initContext.maxIter = s.maxIter := by unfold State.initContext; rfl
@[simp] theorem State.initContext_res : s.initContext.res = s.res := by unfold State.initContext; rfl
@[simp] theorem State.initContext_pv : s.initContext.pv = .notRun := by unfold State.initContext; rfl
@[simp] theorem State.initContext_synv : s.initContext.synv = false := by unfold State.initContext; rfl
@[simp] theorem State.initContext_sok : s.initContext.sok = false := by unfold State.initContext; rfl
@[simp] theorem State.initContext_iil : s.initContext.iil = s.iil := by unfold State.initContext; rfl
@[simp] theorem State.initContext_iin : s.initContext.iin = s.iin := by unfold State.initContext; rfl
@[simp] theorem State.initContext_gfail : s.initContext.gfail = s.gfail := by unfold State.initContext; rfl
@[simp] theorem State.initContext_cerr : s.initContext.cerr = s.cerr := by unfold State.initContext; rfl
@[simp] theorem State.initContext_commands : s.initContext.commands = s.commands := by unfold State.initContext; rfl
@[simp] theorem State.initContext_response : s.initContext.response = s.response := by unfold State.initContext; rfl

end initContext

section c2b

variable (s : State)

@[simp] theorem State.c2b_graph : s.c2b.graph = s.graph := by unfold State.c2b; rfl
@[simp] theorem State.c2b_checksumUnit : s.c2b.checksumUnit = s.checksumUnit := by unfold State.c2b; rfl
@[simp] theorem State.c2b_phase : s.c2b.phase = s.phase := by unfold State.c2b; rfl
@[simp] theorem State.c2b_cw : s.c2b.cw = s.cw := by unfold State.c2b; rfl
@[simp] theorem State.c2b_pld : s.c2b.pld = s.pld := by unfold State.c2b; rfl
@[simp] theorem State.c2b_syn : s.c2b.syn = s.syn := by unfold State.c2b; rfl
@[simp] theorem State.c2b_llrBuf : s.c2b.llrBuf = s.llrBuf := by unfold State.c2b; rfl
@[simp] theorem State.c2b_llrCnt : s.c2b.llrCnt = s.llrCnt := by unfold State.c2b; rfl
@[simp] theorem State.c2b_l : s.c2b.l = s.l := by unfold State.c2b; rfl
@[simp] theorem State.c2b_q : s.c2b.q = s.q := by unfold State.c2b; rfl
@[simp] theorem State.c2b_tot : s.c2b.tot = s.tot := by unfold State.c2b; rfl
@[simp] theorem State.c2b_iter : s.c2b.iter = s.iter := by unfold State.c2b; rfl
@[simp] theorem State.c2b_maxIter : s.c2b.maxIter = s.maxIter := by unfold State.c2b; rfl
@[simp] theorem State.c2b_res : s.c2b.res = s.res := by unfold State.c2b; rfl
@[simp] theorem State.c2b_pv : s.c2b.pv = s.pv := by unfold State.c2b; rfl
@[simp] theorem State.c2b_synv : s.c2b.synv = s.synv := by unfold State.c2b; rfl
@[simp] theorem State.c2b_sok : s.c2b.sok = s.sok := by unfold State.c2b; rfl
@[simp] theorem State.c2b_iil : s.c2b.iil = s.iil := by unfold State.c2b; rfl
@[simp] theorem State.c2b_iin : s.c2b.iin = s.iin := by unfold State.c2b; rfl
@[simp] theorem State.c2b_gfail : s.c2b.gfail = s.gfail := by unfold State.c2b; rfl
@[simp] theorem State.c2b_cerr : s.c2b.cerr = s.cerr := by unfold State.c2b; rfl
@[simp] theorem State.c2b_commands : s.c2b.commands = s.commands := by unfold State.c2b; rfl
@[simp] theorem State.c2b_response : s.c2b.response = s.response := by unfold State.c2b; rfl

end c2b

section b2c

variable (s : State)

@[simp] theorem State.b2c_graph : s.b2c.graph = s.graph := by unfold State.b2c; rfl
@[simp] theorem State.b2c_checksumUnit : s.b2c.checksumUnit = s.checksumUnit := by unfold State.b2c; rfl
@[simp] theorem State.b2c_phase : s.b2c.phase = s.phase := by unfold State.b2c; rfl
@[simp] theorem State.b2c_cw : s.b2c.cw = s.cw := by unfold State.b2c; rfl
@[simp] theorem State.b2c_pld : s.b2c.pld = s.pld := by unfold State.b2c; rfl
@[simp] theorem State.b2c_syn : s.b2c.syn = s.syn := by unfold State.b2c; rfl
@[simp] theorem State.b2c_llrBuf : s.b2c.llrBuf = s.llrBuf := by unfold State.b2c; rfl
@[simp] theorem State.b2c_llrCnt : s.b2c.llrCnt = s.llrCnt := by unfold State.b2c; rfl
@[simp] theorem State.b2c_l : s.b2c.l = s.l := by unfold State.b2c; rfl
@[simp] theorem State.b2c_r : s.b2c.r = s.r := by unfold State.b2c; rfl
@[simp] theorem State.b2c_iter : s.b2c.iter = s.iter := by unfold State.b2c; rfl
@[simp] theorem State.b2c_maxIter : s.b2c.maxIter = s.maxIter := by unfold State.b2c; rfl
@[simp] theorem State.b2c_res : s.b2c.res = s.res := by unfold State.b2c; rfl
@[simp] theorem State.b2c_pv : s.b2c.pv = s.pv := by unfold State.b2c; rfl
@[simp] theorem State.b2c_synv : s.b2c.synv = s.synv := by unfold State.b2c; rfl
@[simp] theorem State.b2c_sok : s.b2c.sok = s.sok := by unfold State.b2c; rfl
@[simp] theorem State.b2c_iil : s.b2c.iil = s.iil := by unfold State.b2c; rfl
@[simp] theorem State.b2c_iin : s.b2c.iin = s.iin := by unfold State.b2c; rfl
@[simp] theorem State.b2c_gfail : s.b2c.gfail = s.gfail := by unfold State.b2c; rfl
@[simp] theorem State.b2c_cerr : s.b2c.cerr = s.cerr := by unfold State.b2c; rfl
@[simp] theorem State.b2c_commands : s.b2c.commands = s.commands := by unfold State.b2c; rfl
@[simp] theorem State.b2c_response : s.b2c.response = s.response := by unfold State.b2c; rfl

end b2c

section hard

variable (s : State)

@[simp] theorem State.hard_graph : s.hard.graph = s.graph := by unfold State.hard; rfl
@[simp] theorem State.hard_checksumUnit : s.hard.checksumUnit = s.checksumUnit := by unfold State.hard; rfl
@[simp] theorem State.hard_phase : s.hard.phase = s.phase := by unfold State.hard; rfl
@[simp] theorem State.hard_cw : s.hard.cw = bitSeq 174 fun b => decide (bitAt s.tot b ≤ 0) := by unfold State.hard; rfl
@[simp] theorem State.hard_pld : s.hard.pld = s.pld := by unfold State.hard; rfl
@[simp] theorem State.hard_syn : s.hard.syn = s.syn := by unfold State.hard; rfl
@[simp] theorem State.hard_llrBuf : s.hard.llrBuf = s.llrBuf := by unfold State.hard; rfl
@[simp] theorem State.hard_llrCnt : s.hard.llrCnt = s.llrCnt := by unfold State.hard; rfl
@[simp] theorem State.hard_l : s.hard.l = s.l := by unfold State.hard; rfl
@[simp] theorem State.hard_q : s.hard.q = s.q := by unfold State.hard; rfl
@[simp] theorem State.hard_r : s.hard.r = s.r := by unfold State.hard; rfl
@[simp] theorem State.hard_tot : s.hard.tot = s.tot := by unfold State.hard; rfl
@[simp] theorem State.hard_iter : s.hard.iter = s.iter := by unfold State.hard; rfl
@[simp] theorem State.hard_maxIter : s.hard.maxIter = s.maxIter := by unfold State.hard; rfl
@[simp] theorem State.hard_res : s.hard.res = s.res := by unfold State.hard; rfl
@[simp] theorem State.hard_pv : s.hard.pv = s.pv := by unfold State.hard; rfl
@[simp] theorem State.hard_synv : s.hard.synv = s.synv := by unfold State.hard; rfl
@[simp] theorem State.hard_sok : s.hard.sok = s.sok := by unfold State.hard; rfl
@[simp] theorem State.hard_iil : s.hard.iil = s.iil := by unfold State.hard; rfl
@[simp] theorem State.hard_iin : s.hard.iin = s.iin := by unfold State.hard; rfl
@[simp] theorem State.hard_gfail : s.hard.gfail = s.gfail := by unfold State.hard; rfl
@[simp] theorem State.hard_cerr : s.hard.cerr = s.cerr := by unfold State.hard; rfl
@[simp] theorem State.hard_commands : s.hard.commands = s.commands := by unfold State.hard; rfl
@[simp] theorem State.hard_response : s.hard.response = s.response := by unfold State.hard; rfl

end hard

section synd

variable (s : State)

@[simp] theorem State.synd_graph : s.synd.graph = s.graph := by unfold State.synd; rfl
@[simp] theorem State.synd_checksumUnit : s.synd.checksumUnit = s.checksumUnit := by unfold State.synd; rfl
@[simp] theorem State.synd_phase : s.synd.phase = s.phase := by unfold State.synd; rfl
@[simp] theorem State.synd_cw : s.synd.cw = s.cw := by unfold State.synd; rfl
@[simp] theorem State.synd_pld : s.synd.pld = s.pld := by unfold State.synd; rfl
@[simp] theorem State.synd_syn : s.synd.syn = syndromeOf s.graph s.cw := by unfold State.synd; rfl
@[simp] theorem State.synd_llrBuf : s.synd.llrBuf = s.llrBuf := by unfold State.synd; rfl
@[simp] theorem State.synd_llrCnt : s.synd.llrCnt = s.llrCnt := by unfold State.synd; rfl
@[simp] theorem State.synd_l : s.synd.l = s.l := by unfold State.synd; rfl
@[simp] theorem State.synd_q : s.synd.q = s.q := by unfold State.synd; rfl
@[simp] theorem State.synd_r : s.synd.r = s.r := by unfold State.synd; rfl
@[simp] theorem State.synd_tot : s.synd.tot = s.tot := by unfold State.synd; rfl
@[simp] theorem State.synd_iter : s.synd.iter = s.iter := by unfold State.synd; rfl
@[simp] theorem State.synd_maxIter : s.synd.maxIter = s.maxIter := by unfold State.synd; rfl
@[simp] theorem State.synd_res : s.synd.res = s.res := by unfold State.synd; rfl
@[simp] theorem State.synd_pv : s.synd.pv = s.pv := by unfold State.synd; rfl
@[simp] theorem State.synd_synv : s.synd.synv = true := by unfold State.synd; rfl
@[simp] theorem State.synd_sok : s.synd.sok = (syndromeOf s.graph s.cw == 0#83) := by unfold State.synd; rfl
@[simp] theorem State.synd_iil : s.synd.iil = s.iil := by unfold State.synd; rfl
@[simp] theorem State.synd_iin : s.synd.iin = s.iin := by unfold State.synd; rfl
@[simp] theorem State.synd_gfail : s.synd.gfail = s.gfail := by unfold State.synd; rfl
@[simp] theorem State.synd_cerr : s.synd.cerr = s.cerr := by unfold State.synd; rfl
@[simp] theorem State.synd_commands : s.synd.commands = s.commands := by unfold State.synd; rfl
@[simp] theorem State.synd_response : s.synd.response = s.response := by unfold State.synd; rfl

end synd

section iteration

variable (s : State)

@[simp] theorem State.iteration_graph : s.iteration.graph = s.graph := by simp [State.iteration]
@[simp] theorem State.iteration_checksumUnit : s.iteration.checksumUnit = s.checksumUnit := by simp [State.iteration]
@[simp] theorem State.iteration_phase : s.iteration.phase = s.phase := by simp [State.iteration]
@[simp] theorem State.iteration_pld : s.iteration.pld = s.pld := by simp [State.iteration]
@[simp] theorem State.iteration_llrBuf : s.iteration.llrBuf = s.llrBuf := by simp [State.iteration]
@[simp] theorem State.iteration_llrCnt : s.iteration.llrCnt = s.llrCnt := by simp [State.iteration]
@[simp] theorem State.iteration_l : s.iteration.l = s.l := by simp [State.iteration]
@[simp] theorem State.iteration_iter : s.iteration.iter = s.iter + 1#8 := by simp [State.iteration]
@[simp] theorem State.iteration_maxIter : s.iteration.maxIter = s.maxIter := by simp [State.iteration]
@[simp] theorem State.iteration_res : s.iteration.res = s.res := by simp [State.iteration]
@[simp] theorem State.iteration_pv : s.iteration.pv = s.pv := by simp [State.iteration]
@[simp] theorem State.iteration_synv : s.iteration.synv = true := by simp [State.iteration]
@[simp] theorem State.iteration_iil : s.iteration.iil = s.iil := by simp [State.iteration]
@[simp] theorem State.iteration_iin : s.iteration.iin = s.iin := by simp [State.iteration]
@[simp] theorem State.iteration_gfail : s.iteration.gfail = s.gfail := by simp [State.iteration]
@[simp] theorem State.iteration_cerr : s.iteration.cerr = s.cerr := by simp [State.iteration]
@[simp] theorem State.iteration_commands : s.iteration.commands = s.commands := by simp [State.iteration]
@[simp] theorem State.iteration_response : s.iteration.response = s.response := by simp [State.iteration]

end iteration

section operandRefused

variable (s : State)

@[simp] theorem State.operandRefused_graph : s.operandRefused.graph = s.graph := rfl
@[simp] theorem State.operandRefused_checksumUnit : s.operandRefused.checksumUnit = s.checksumUnit := rfl
@[simp] theorem State.operandRefused_phase : s.operandRefused.phase = s.phase := rfl
@[simp] theorem State.operandRefused_cw : s.operandRefused.cw = s.cw := rfl
@[simp] theorem State.operandRefused_pld : s.operandRefused.pld = s.pld := rfl
@[simp] theorem State.operandRefused_syn : s.operandRefused.syn = s.syn := rfl
@[simp] theorem State.operandRefused_llrBuf : s.operandRefused.llrBuf = s.llrBuf := rfl
@[simp] theorem State.operandRefused_llrCnt : s.operandRefused.llrCnt = s.llrCnt := rfl
@[simp] theorem State.operandRefused_l : s.operandRefused.l = s.l := rfl
@[simp] theorem State.operandRefused_q : s.operandRefused.q = s.q := rfl
@[simp] theorem State.operandRefused_r : s.operandRefused.r = s.r := rfl
@[simp] theorem State.operandRefused_tot : s.operandRefused.tot = s.tot := rfl
@[simp] theorem State.operandRefused_iter : s.operandRefused.iter = s.iter := rfl
@[simp] theorem State.operandRefused_maxIter : s.operandRefused.maxIter = s.maxIter := rfl
@[simp] theorem State.operandRefused_res : s.operandRefused.res = s.res := rfl
@[simp] theorem State.operandRefused_pv : s.operandRefused.pv = s.pv := rfl
@[simp] theorem State.operandRefused_synv : s.operandRefused.synv = s.synv := rfl
@[simp] theorem State.operandRefused_sok : s.operandRefused.sok = s.sok := rfl
@[simp] theorem State.operandRefused_iil : s.operandRefused.iil = s.iil := rfl
@[simp] theorem State.operandRefused_iin : s.operandRefused.iin = s.iin := rfl
@[simp] theorem State.operandRefused_gfail : s.operandRefused.gfail = s.gfail := rfl
@[simp] theorem State.operandRefused_cerr : s.operandRefused.cerr = true := rfl
@[simp] theorem State.operandRefused_commands : s.operandRefused.commands = s.commands := rfl
@[simp] theorem State.operandRefused_response : s.operandRefused.response = some (responseWord .errOperand 0) := rfl

end operandRefused

section graphRefused

variable (s : State)

@[simp] theorem State.graphRefused_graph : s.graphRefused.graph = s.graph := rfl
@[simp] theorem State.graphRefused_checksumUnit : s.graphRefused.checksumUnit = s.checksumUnit := rfl
@[simp] theorem State.graphRefused_phase : s.graphRefused.phase = s.phase := rfl
@[simp] theorem State.graphRefused_cw : s.graphRefused.cw = s.cw := rfl
@[simp] theorem State.graphRefused_pld : s.graphRefused.pld = s.pld := rfl
@[simp] theorem State.graphRefused_syn : s.graphRefused.syn = s.syn := rfl
@[simp] theorem State.graphRefused_llrBuf : s.graphRefused.llrBuf = s.llrBuf := rfl
@[simp] theorem State.graphRefused_llrCnt : s.graphRefused.llrCnt = s.llrCnt := rfl
@[simp] theorem State.graphRefused_l : s.graphRefused.l = s.l := rfl
@[simp] theorem State.graphRefused_q : s.graphRefused.q = s.q := rfl
@[simp] theorem State.graphRefused_r : s.graphRefused.r = s.r := rfl
@[simp] theorem State.graphRefused_tot : s.graphRefused.tot = s.tot := rfl
@[simp] theorem State.graphRefused_iter : s.graphRefused.iter = s.iter := rfl
@[simp] theorem State.graphRefused_maxIter : s.graphRefused.maxIter = s.maxIter := rfl
@[simp] theorem State.graphRefused_res : s.graphRefused.res = s.res := rfl
@[simp] theorem State.graphRefused_pv : s.graphRefused.pv = s.pv := rfl
@[simp] theorem State.graphRefused_synv : s.graphRefused.synv = s.synv := rfl
@[simp] theorem State.graphRefused_sok : s.graphRefused.sok = s.sok := rfl
@[simp] theorem State.graphRefused_iil : s.graphRefused.iil = s.iil := rfl
@[simp] theorem State.graphRefused_iin : s.graphRefused.iin = s.iin := rfl
@[simp] theorem State.graphRefused_gfail : s.graphRefused.gfail = s.gfail := rfl
@[simp] theorem State.graphRefused_cerr : s.graphRefused.cerr = s.cerr := rfl
@[simp] theorem State.graphRefused_commands : s.graphRefused.commands = s.commands := rfl
@[simp] theorem State.graphRefused_response : s.graphRefused.response = some (responseWord .errGraph 0) := rfl

end graphRefused

section answered

variable (s : State) (data : BitVec 32)

@[simp] theorem State.answered_graph : (s.answered data).graph = s.graph := rfl
@[simp] theorem State.answered_checksumUnit : (s.answered data).checksumUnit = s.checksumUnit := rfl
@[simp] theorem State.answered_phase : (s.answered data).phase = s.phase := rfl
@[simp] theorem State.answered_cw : (s.answered data).cw = s.cw := rfl
@[simp] theorem State.answered_pld : (s.answered data).pld = s.pld := rfl
@[simp] theorem State.answered_syn : (s.answered data).syn = s.syn := rfl
@[simp] theorem State.answered_llrBuf : (s.answered data).llrBuf = s.llrBuf := rfl
@[simp] theorem State.answered_llrCnt : (s.answered data).llrCnt = s.llrCnt := rfl
@[simp] theorem State.answered_l : (s.answered data).l = s.l := rfl
@[simp] theorem State.answered_q : (s.answered data).q = s.q := rfl
@[simp] theorem State.answered_r : (s.answered data).r = s.r := rfl
@[simp] theorem State.answered_tot : (s.answered data).tot = s.tot := rfl
@[simp] theorem State.answered_iter : (s.answered data).iter = s.iter := rfl
@[simp] theorem State.answered_maxIter : (s.answered data).maxIter = s.maxIter := rfl
@[simp] theorem State.answered_res : (s.answered data).res = s.res := rfl
@[simp] theorem State.answered_pv : (s.answered data).pv = s.pv := rfl
@[simp] theorem State.answered_synv : (s.answered data).synv = s.synv := rfl
@[simp] theorem State.answered_sok : (s.answered data).sok = s.sok := rfl
@[simp] theorem State.answered_iil : (s.answered data).iil = s.iil := rfl
@[simp] theorem State.answered_iin : (s.answered data).iin = s.iin := rfl
@[simp] theorem State.answered_gfail : (s.answered data).gfail = s.gfail := rfl
@[simp] theorem State.answered_cerr : (s.answered data).cerr = s.cerr := rfl
@[simp] theorem State.answered_commands : (s.answered data).commands = s.commands := rfl
@[simp] theorem State.answered_response : (s.answered data).response = some (responseWord .ok data) := rfl

end answered

section startAttempt

variable (s : State)

@[simp] theorem State.startAttempt_graph : s.startAttempt.graph = s.graph := rfl
@[simp] theorem State.startAttempt_checksumUnit : s.startAttempt.checksumUnit = s.checksumUnit := rfl
@[simp] theorem State.startAttempt_phase : s.startAttempt.phase = .init := rfl
@[simp] theorem State.startAttempt_cw : s.startAttempt.cw = s.cw := rfl
@[simp] theorem State.startAttempt_pld : s.startAttempt.pld = s.pld := rfl
@[simp] theorem State.startAttempt_syn : s.startAttempt.syn = s.syn := rfl
@[simp] theorem State.startAttempt_llrBuf : s.startAttempt.llrBuf = s.llrBuf := rfl
@[simp] theorem State.startAttempt_llrCnt : s.startAttempt.llrCnt = s.llrCnt := rfl
@[simp] theorem State.startAttempt_l : s.startAttempt.l = s.l := rfl
@[simp] theorem State.startAttempt_q : s.startAttempt.q = s.q := rfl
@[simp] theorem State.startAttempt_r : s.startAttempt.r = s.r := rfl
@[simp] theorem State.startAttempt_tot : s.startAttempt.tot = s.tot := rfl
@[simp] theorem State.startAttempt_iter : s.startAttempt.iter = s.iter := rfl
@[simp] theorem State.startAttempt_maxIter : s.startAttempt.maxIter = s.maxIter := rfl
@[simp] theorem State.startAttempt_res : s.startAttempt.res = s.res := rfl
@[simp] theorem State.startAttempt_pv : s.startAttempt.pv = s.pv := rfl
@[simp] theorem State.startAttempt_synv : s.startAttempt.synv = s.synv := rfl
@[simp] theorem State.startAttempt_sok : s.startAttempt.sok = s.sok := rfl
@[simp] theorem State.startAttempt_iil : s.startAttempt.iil = false := rfl
@[simp] theorem State.startAttempt_iin : s.startAttempt.iin = false := rfl
@[simp] theorem State.startAttempt_gfail : s.startAttempt.gfail = s.gfail := rfl
@[simp] theorem State.startAttempt_cerr : s.startAttempt.cerr = s.cerr := rfl
@[simp] theorem State.startAttempt_commands : s.startAttempt.commands = s.commands := rfl
@[simp] theorem State.startAttempt_response : s.startAttempt.response = s.response := rfl

end startAttempt

section withResult

variable (s : State) (x : DecodeResult)

@[simp] theorem State.withResult_graph : (s.withResult x).graph = s.graph := rfl
@[simp] theorem State.withResult_checksumUnit : (s.withResult x).checksumUnit = s.checksumUnit := rfl
@[simp] theorem State.withResult_phase : (s.withResult x).phase = s.phase := rfl
@[simp] theorem State.withResult_cw : (s.withResult x).cw = s.cw := rfl
@[simp] theorem State.withResult_pld : (s.withResult x).pld = s.pld := rfl
@[simp] theorem State.withResult_syn : (s.withResult x).syn = s.syn := rfl
@[simp] theorem State.withResult_llrBuf : (s.withResult x).llrBuf = s.llrBuf := rfl
@[simp] theorem State.withResult_llrCnt : (s.withResult x).llrCnt = s.llrCnt := rfl
@[simp] theorem State.withResult_l : (s.withResult x).l = s.l := rfl
@[simp] theorem State.withResult_q : (s.withResult x).q = s.q := rfl
@[simp] theorem State.withResult_r : (s.withResult x).r = s.r := rfl
@[simp] theorem State.withResult_tot : (s.withResult x).tot = s.tot := rfl
@[simp] theorem State.withResult_iter : (s.withResult x).iter = s.iter := rfl
@[simp] theorem State.withResult_maxIter : (s.withResult x).maxIter = s.maxIter := rfl
@[simp] theorem State.withResult_res : (s.withResult x).res = x := rfl
@[simp] theorem State.withResult_pv : (s.withResult x).pv = s.pv := rfl
@[simp] theorem State.withResult_synv : (s.withResult x).synv = s.synv := rfl
@[simp] theorem State.withResult_sok : (s.withResult x).sok = s.sok := rfl
@[simp] theorem State.withResult_iil : (s.withResult x).iil = s.iil := rfl
@[simp] theorem State.withResult_iin : (s.withResult x).iin = s.iin := rfl
@[simp] theorem State.withResult_gfail : (s.withResult x).gfail = s.gfail := rfl
@[simp] theorem State.withResult_cerr : (s.withResult x).cerr = s.cerr := rfl
@[simp] theorem State.withResult_commands : (s.withResult x).commands = s.commands := rfl
@[simp] theorem State.withResult_response : (s.withResult x).response = s.response := rfl

end withResult

section payv

variable (s : State)

@[simp] theorem State.payv_graph : s.payv.graph = s.graph := by unfold State.payv; split <;> rfl
@[simp] theorem State.payv_checksumUnit : s.payv.checksumUnit = s.checksumUnit := by unfold State.payv; split <;> rfl
@[simp] theorem State.payv_phase : s.payv.phase = s.phase := by unfold State.payv; split <;> rfl
@[simp] theorem State.payv_cw : s.payv.cw = s.cw := by unfold State.payv; split <;> rfl
@[simp] theorem State.payv_syn : s.payv.syn = s.syn := by unfold State.payv; split <;> rfl
@[simp] theorem State.payv_llrBuf : s.payv.llrBuf = s.llrBuf := by unfold State.payv; split <;> rfl
@[simp] theorem State.payv_llrCnt : s.payv.llrCnt = s.llrCnt := by unfold State.payv; split <;> rfl
@[simp] theorem State.payv_l : s.payv.l = s.l := by unfold State.payv; split <;> rfl
@[simp] theorem State.payv_q : s.payv.q = s.q := by unfold State.payv; split <;> rfl
@[simp] theorem State.payv_r : s.payv.r = s.r := by unfold State.payv; split <;> rfl
@[simp] theorem State.payv_tot : s.payv.tot = s.tot := by unfold State.payv; split <;> rfl
@[simp] theorem State.payv_iter : s.payv.iter = s.iter := by unfold State.payv; split <;> rfl
@[simp] theorem State.payv_maxIter : s.payv.maxIter = s.maxIter := by unfold State.payv; split <;> rfl
@[simp] theorem State.payv_res : s.payv.res = s.res := by unfold State.payv; split <;> rfl
@[simp] theorem State.payv_synv : s.payv.synv = s.synv := by unfold State.payv; split <;> rfl
@[simp] theorem State.payv_sok : s.payv.sok = s.sok := by unfold State.payv; split <;> rfl
@[simp] theorem State.payv_iil : s.payv.iil = s.iil := by unfold State.payv; split <;> rfl
@[simp] theorem State.payv_iin : s.payv.iin = s.iin := by unfold State.payv; split <;> rfl
@[simp] theorem State.payv_gfail : s.payv.gfail = s.gfail := by unfold State.payv; split <;> rfl
@[simp] theorem State.payv_cerr : s.payv.cerr = s.cerr := by unfold State.payv; split <;> rfl
@[simp] theorem State.payv_commands : s.payv.commands = s.commands := by unfold State.payv; split <;> rfl
@[simp] theorem State.payv_response : s.payv.response = s.response := by unfold State.payv; split <;> rfl

end payv

end Sys2Proof.Machine
end

