-- ==== Sys2Proof/Laws/Ops.lean ====
section
/-! SUPPORT. One lemma per shared operation that says what it does, so that proofs cite it instead of
unfolding the operation. -/

namespace Sys2Proof.Machine

/-! ### Bit sequences and words -/

@[simp] theorem getLsbD_bitSeq (n : Nat) (f : Nat → Bool) (i : Nat) :
    (bitSeq n f).getLsbD i = (decide (i < n) && f i) := by
  unfold bitSeq
  by_cases h : i < n
  · simp [h]
  · rw [BitVec.getLsbD_of_ge (BitVec.ofFnLE fun i : Fin n => f i.val) i (Nat.le_of_not_lt h)]
    simp [h]

theorem getLsbD_seqWord {n : Nat} (v : BitVec n) (w i : Nat) :
    (seqWord v w).getLsbD i = (decide (i < 32) && v.getLsbD (32 * w + i)) := by
  simp [seqWord, BitVec.getLsbD_setWidth, BitVec.getLsbD_ushiftRight]

theorem getLsbD_writeCodewordWord (cw : Codeword) (w : Nat) (d : DField) (i : Nat) :
    (writeCodewordWord cw w d).getLsbD i =
      (decide (i < 174) && if i / 32 = w then d.getLsbD (i % 32) else cw.getLsbD i) := by
  simp [writeCodewordWord]

theorem getLsbD_payloadOf (cw : Codeword) (i : Nat) :
    (payloadOf cw).getLsbD i = (decide (i < 77) && cw.getLsbD i) := by
  simp [payloadOf, BitVec.getLsbD_extractLsb']

theorem getLsbD_checksumOf (cw : Codeword) (i : Nat) :
    (checksumOf cw).getLsbD i = (decide (i < 14) && cw.getLsbD (77 + i)) := by
  simp [checksumOf, BitVec.getLsbD_extractLsb']

/-- An appended word as a number: the high part at the weight of its place. -/
theorem toNat_append {m n : Nat} (x : BitVec m) (y : BitVec n) :
    (x ++ y).toNat = x.toNat * 2 ^ n + y.toNat := by
  rw [BitVec.toNat_append, ← Nat.shiftLeft_add_eq_or_of_lt y.isLt, Nat.shiftLeft_eq]

/-! ### Register files -/

theorem bitAt_eq_getElem (v : BitFile) {b : Nat} (h : b < 174) : bitAt v b = v[b] := by
  simp [bitAt, h]

theorem messageAt_eq_getElem (m : MessageFile) {b j : Nat} (h : b < 174) (h' : j < 3) :
    messageAt m b j = m[b][j] := by
  simp [messageAt, h, h']

/-! ### Syndromes -/

/-- The parity of a check says whether its count of ones is odd (rule R131). -/
theorem parity_eq_odd (g : GraphRom) (cw : Codeword) (c : Nat) :
    parity g cw c = decide (onesInCheck g cw c % 2 = 1) := by
  unfold parity onesInCheck
  induction g.bitsOf c with
  | nil => rfl
  | cons b bs ih =>
    rw [List.foldr_cons, ih, List.countP_cons]
    obtain h | h := Nat.mod_two_eq_zero_or_one (bs.countP fun b => cw.getLsbD b) <;>
      cases cw.getLsbD b <;> simp [Nat.add_mod, h]

theorem getLsbD_syndromeOf (g : GraphRom) (cw : Codeword) (c : Nat) :
    (syndromeOf g cw).getLsbD c = (decide (c < 83) && parity g cw c) := by
  simp [syndromeOf]

/-- The syndrome is zero exactly on the codewords (rules R131, R135). -/
theorem syndromeOf_eq_zero (g : GraphRom) (cw : Codeword) :
    syndromeOf g cw = 0 ↔ IsCodeword g cw := by
  constructor
  · intro h c hc
    have hb := congrArg (fun v => v.getLsbD c) h
    simp only [getLsbD_syndromeOf, parity_eq_odd, hc] at hb
    simp at hb
    omega
  · intro h
    apply BitVec.eq_of_getLsbD_eq
    intro c hc
    simp [getLsbD_syndromeOf, parity_eq_odd, h c hc]

/-! ### Responding and refusing -/

theorem refuse_operand (s : State) : s.refuse .operand = s.operandRefused := rfl

theorem refuse_graph (s : State) : s.refuse .graph = s.graphRefused := rfl

theorem refuse_opcode (s : State) :
    s.refuse .opcode = { s with cerr := true, response := some (responseWord .errOpcode 0) } := rfl

theorem respond_ok (s : State) (data : BitVec 32) : s.respond .ok data = s.answered data := rfl

/-- The common checks: refused for the graph, refused for the operands, or run (rule R172). -/
theorem command_cases (s : State) (exempt unusedZero legal : Bool) (run : State → State) :
    (s.gfail = true ∧ exempt = false ∧ s.command exempt unusedZero legal run = s.graphRefused) ∨
    ((s.gfail = false ∨ exempt = true) ∧ (unusedZero = false ∨ legal = false) ∧
      s.command exempt unusedZero legal run = s.operandRefused) ∨
    ((s.gfail = false ∨ exempt = true) ∧ unusedZero = true ∧ legal = true ∧
      s.command exempt unusedZero legal run = run s) := by
  unfold State.command
  cases s.gfail <;> cases exempt <;> cases unusedZero <;> cases legal <;>
    simp [refuse_operand, refuse_graph]

theorem command_run {s : State} {exempt unusedZero legal : Bool} {run : State → State}
    (hg : s.gfail = false ∨ exempt = true) (hu : unusedZero = true) (hl : legal = true) :
    s.command exempt unusedZero legal run = run s := by
  obtain h | h := hg <;> simp [State.command, h, hu, hl]

theorem command_graphRefused {s : State} {unusedZero legal : Bool} {run : State → State}
    (hg : s.gfail = true) : s.command false unusedZero legal run = s.graphRefused := by
  simp [State.command, hg, refuse_graph]

theorem command_operandRefused {s : State} {exempt unusedZero legal : Bool} {run : State → State}
    (hg : s.gfail = false ∨ exempt = true) (h : unusedZero = false ∨ legal = false) :
    s.command exempt unusedZero legal run = s.operandRefused := by
  obtain hg | hg := hg <;> obtain h | h := h <;> simp [State.command, hg, h, refuse_operand]

/-! ### Reset from outside -/

@[simp] theorem externalReset_eq (s : State) :
    s.externalReset = State.resetWith s.graph s.checksumUnit := rfl

@[simp] theorem externalReset_contexts (b : Block) :
    b.externalReset.contexts = b.contexts.map State.externalReset := rfl

/-! ### The ROM -/

theorem nmRow_eq (g : GraphRom) {c : Nat} (h : c < 83) : g.nmRow c = g.nm[c].toList := by
  simp [GraphRom.nmRow, h]

theorem mnRow_eq (g : GraphRom) {b : Nat} (h : b < 174) : g.mnRow b = g.mn[b].toList := by
  simp [GraphRom.mnRow, h]

/-- An ascending list of addresses, each with at most one byte, is a memory in canonical form. -/
theorem wf_filterMap (f : Nat → Option (BitVec 8)) (as : List Nat) (h : as.Pairwise (· < ·)) :
    Memory.wf (as.filterMap fun a => (f a).map fun e => (a, e)) = true := by
  have key : ∀ l : List Host.Cell, l.Pairwise (fun x y => x.1 < y.1) → Memory.wf l = true := by
    intro l hl
    induction l with
    | nil => rfl
    | cons x l ih =>
      cases l with
      | nil => rfl
      | cons y l =>
        rw [List.pairwise_cons] at hl
        simp [Memory.wf, ih hl.2, hl.1 y (by simp)]
  refine key _ ?_
  rw [List.pairwise_filterMap]
  refine h.imp ?_
  intro a b hab x hx y hy
  simp only [Option.map_eq_some_iff] at hx hy
  obtain ⟨_, _, rfl⟩ := hx
  obtain ⟨_, _, rfl⟩ := hy
  exact hab

/-- The ROM, of any state, is a memory in canonical form; no command writes it. -/
theorem romCells_wf (g : GraphRom) : Memory.wf (romCells g) = true := by
  refine wf_filterMap g.read romAddresses ?_
  unfold romAddresses
  refine List.pairwise_append.2 ⟨List.pairwise_lt_range, ?_, ?_⟩
  · exact List.pairwise_map.2 (List.pairwise_lt_range.imp fun h => by omega)
  · intro a ha b hb
    simp only [List.mem_range, List.mem_map] at ha hb
    obtain ⟨i, -, rfl⟩ := hb
    omega

end Sys2Proof.Machine
end

