-- ==== Sys2Proof/Laws/Decoder.lean ====
section
/-! SUPPORT. What DEC's loop can do, said once: which pass it stops at and why, and what it leaves
alone (`41_decode.md` rules R104, R113). -/

namespace Sys2Proof.Machine

/-- A pass ends the loop: every check holds, or the budget is used up (rule R113). -/
def State.LoopExit (s : State) : Prop := s.sok = true ∨ s.iter = s.maxIter

/-- The state in which the loop leaves, after a pass that ended it (rule R104 step 3). -/
def State.loopResult (s : State) : State :=
  if s.sok then s.withResult .converged else s.withResult .maxIterationsExceeded

/-- The loop stops at its first pass that meets an exit, or runs all its passes without one. -/
theorem decodeLoop_cases (n : Nat) (s : State) :
    (∃ k, 1 ≤ k ∧ k ≤ n ∧ (∀ j, 1 ≤ j → j < k → ¬(State.iteration^[j] s).LoopExit) ∧
      (State.iteration^[k] s).LoopExit ∧
      decodeLoop n s = (State.iteration^[k] s).loopResult) ∨
    ((∀ j, 1 ≤ j → j ≤ n → ¬(State.iteration^[j] s).LoopExit) ∧
      decodeLoop n s = State.iteration^[n] s) := by
  induction n generalizing s with
  | zero => exact .inr ⟨fun j h1 h2 => absurd h1 (by omega), rfl⟩
  | succ n ih =>
    by_cases hx : s.iteration.LoopExit
    · refine .inl ⟨1, le_refl 1, by omega, fun j h1 h2 => absurd h1 (by omega), by rwa [Function.iterate_one], ?_⟩
      rw [Function.iterate_one, decodeLoop, State.loopResult]
      obtain hs | hi := hx
      · simp [hs]
      · cases hs : s.iteration.sok
        · simp only [Bool.false_eq_true, if_false, if_pos hi]
        · simp only [if_true]
    · have hstep : decodeLoop (n + 1) s = decodeLoop n s.iteration := by
        have h1 : s.iteration.sok = false := by
          cases h : s.iteration.sok
          · rfl
          · exact absurd (.inl h) hx
        have h2 : s.iteration.iter ≠ s.iteration.maxIter := fun h => hx (.inr h)
        rw [decodeLoop]
        simp only [h1, Bool.false_eq_true, if_false, h2]
      rw [hstep]
      have shift : ∀ j, State.iteration^[j + 1] s = State.iteration^[j] s.iteration := fun j =>
        Function.iterate_succ_apply _ _ _
      have first : ∀ j, 1 ≤ j → (∀ i, 1 ≤ i → i < j → ¬(State.iteration^[i] s.iteration).LoopExit) →
          ∀ i, 1 ≤ i → i < j + 1 → ¬(State.iteration^[i] s).LoopExit := by
        intro j _ h i hi1 hi2
        obtain ⟨i, rfl⟩ : ∃ i', i = i' + 1 := ⟨i - 1, by omega⟩
        rw [shift]
        by_cases h0 : i = 0
        · subst h0; exact hx
        · exact h i (by omega) (by omega)
      obtain ⟨k, hk1, hkn, hbefore, hexit, heq⟩ | ⟨hnone, heq⟩ := ih s.iteration
      · exact .inl ⟨k + 1, by omega, by omega, first k hk1 hbefore, by rwa [shift], by
          rwa [shift]⟩
      · refine .inr ⟨fun j h1 h2 => ?_, by rwa [shift]⟩
        exact first (n + 1) (by omega) (fun i a b => hnone i a (by omega)) j h1 (by omega)

/-- Iterating changes ITER by the number of passes, modulo its 8 bits. -/
theorem iterate_iter (n : Nat) (s : State) :
    (State.iteration^[n] s).iter = s.iter + BitVec.ofNat 8 n := by
  induction n with
  | zero => simp
  | succ n ih =>
    rw [Function.iterate_succ_apply', State.iteration_iter, ih, BitVec.add_assoc]
    congr 1
    apply BitVec.eq_of_toNat_eq
    simp

/-- Whatever a pass leaves alone, any number of passes leaves alone. -/
theorem iterate_keeps {α : Type} (f : State → α) (h : ∀ s : State, f s.iteration = f s) (n : Nat)
    (s : State) : f (State.iteration^[n] s) = f s := by
  induction n with
  | zero => rfl
  | succ n ih => rw [Function.iterate_succ_apply', h, ih]

/-- Whatever a pass and the writing of RES leave alone, the loop leaves alone. -/
theorem decodeLoop_keeps {α : Type} (f : State → α) (h : ∀ s : State, f s.iteration = f s)
    (hr : ∀ (s : State) (x : DecodeResult), f (s.withResult x) = f s) (n : Nat) (s : State) :
    f (decodeLoop n s) = f s := by
  obtain ⟨k, -, -, -, -, heq⟩ | ⟨-, heq⟩ := decodeLoop_cases n s
  · rw [heq, ← iterate_keeps f h k s]
    unfold State.loopResult
    split <;> exact hr _ _
  · rw [heq, iterate_keeps f h n s]

/-- Starting from ITER = 0, some pass among the first 256 meets MAXITER: the loop never runs out of
passes. -/
theorem exists_loopExit (s : State) (h : s.iter = 0) :
    ∃ k, 1 ≤ k ∧ k ≤ loopFuel ∧ (State.iteration^[k] s).LoopExit := by
  have hm := s.maxIter.isLt
  refine ⟨if s.maxIter.toNat = 0 then 256 else s.maxIter.toNat, ?_, ?_, .inr ?_⟩
  · split <;> omega
  · unfold loopFuel; split <;> omega
  · rw [iterate_iter, iterate_keeps State.maxIter (by simp), h]
    apply BitVec.eq_of_toNat_eq
    split
    · simp_all
    · simp

/-- DEC's loop always ends by an exit (rule R113). -/
theorem decodeLoop_exits (s : State) (h : s.iter = 0) :
    ∃ k, 1 ≤ k ∧ k ≤ loopFuel ∧ (∀ j, 1 ≤ j → j < k → ¬(State.iteration^[j] s).LoopExit) ∧
      (State.iteration^[k] s).LoopExit ∧
      decodeLoop loopFuel s = (State.iteration^[k] s).loopResult := by
  obtain hit | ⟨hnone, -⟩ := decodeLoop_cases loopFuel s
  · exact hit
  · obtain ⟨k, h1, h2, hx⟩ := exists_loopExit s h
    exact absurd hx (hnone k h1 h2)

end Sys2Proof.Machine
end

