-- ==== Sys2Proof/Laws/PerInstr.lean ====
section
/-! SUPPORT. The per-instruction family `EncodeFields`: the three fields of every command's word
(`30_encoding.md` rules R70, R75). -/

namespace Sys2Proof.Laws

open Sys2Proof.Machine

/-- The fields of a word are what it was put together from. -/
theorem fields_append (o : BitVec 8) (a : AField) (d : DField) :
    fieldOp (o ++ a ++ d) = o ∧ fieldA (o ++ a ++ d) = a ∧ fieldD (o ++ a ++ d) = d := by
  have hn : (o ++ a ++ d : BitVec 64).toNat = (o.toNat * 2 ^ 24 + a.toNat) * 2 ^ 32 + d.toNat := by
    rw [toNat_append, toNat_append]
  have ho := o.isLt
  have ha := a.isLt
  have hd := d.isLt
  refine ⟨?_, ?_, ?_⟩ <;> apply BitVec.eq_of_toNat_eq
  · simp only [fieldOp, BitVec.extractLsb'_toNat, Nat.shiftRight_eq_div_pow, hn]; omega
  · simp only [fieldA, BitVec.extractLsb'_toNat, Nat.shiftRight_eq_div_pow, hn]; omega
  · simp only [fieldD, BitVec.extractLsb'_toNat, Nat.shiftRight_eq_div_pow, hn]; omega

end Sys2Proof.Laws

namespace Sys2Proof.Laws.EncodeFields

/-- The word of a command carries its opcode and its two fields unchanged. -/
def Statement (i : Instr) : Prop :=
  fieldOp (encode i) = i.opcode ∧ fieldA (encode i) = i.a ∧ fieldD (encode i) = i.d

theorem nop (a : AField) (d : DField) : Statement (.nop a d) := fields_append _ a d

theorem clr (a : AField) (d : DField) : Statement (.clr a d) := fields_append _ a d

theorem gchk (a : AField) (d : DField) : Statement (.gchk a d) := fields_append _ a d

theorem setit (a : AField) (d : DField) : Statement (.setit a d) := fields_append _ a d

theorem llrp (a : AField) (d : DField) : Statement (.llrp a d) := fields_append _ a d

theorem dec (a : AField) (d : DField) : Statement (.dec a d) := fields_append _ a d

theorem cww (a : AField) (d : DField) : Statement (.cww a d) := fields_append _ a d

theorem syn (a : AField) (d : DField) : Statement (.syn a d) := fields_append _ a d

theorem pay (a : AField) (d : DField) : Statement (.pay a d) := fields_append _ a d

theorem rdst (a : AField) (d : DField) : Statement (.rdst a d) := fields_append _ a d

theorem rdit (a : AField) (d : DField) : Statement (.rdit a d) := fields_append _ a d

theorem rdcw (a : AField) (d : DField) : Statement (.rdcw a d) := fields_append _ a d

theorem rdpl (a : AField) (d : DField) : Statement (.rdpl a d) := fields_append _ a d

theorem rdsy (a : AField) (d : DField) : Statement (.rdsy a d) := fields_append _ a d

theorem rdllr (a : AField) (d : DField) : Statement (.rdllr a d) := fields_append _ a d

theorem rdtot (a : AField) (d : DField) : Statement (.rdtot a d) := fields_append _ a d

theorem rdmsg (a : AField) (d : DField) : Statement (.rdmsg a d) := fields_append _ a d

theorem chkof (a : AField) (d : DField) : Statement (.chkof a d) := fields_append _ a d

theorem bitof (a : AField) (d : DField) : Statement (.bitof a d) := fields_append _ a d

theorem romrd (a : AField) (d : DField) : Statement (.romrd a d) := fields_append _ a d

end Sys2Proof.Laws.EncodeFields
end

