-- ==== Sys2Proof/Laws/Reset.lean ====
section
/-! SUPPORT. What reset leaves on the candidate hardware, and that a command always answers a next
state. -/

set_option maxRecDepth 100000

namespace Sys2Proof.Laws

open Sys2Proof.Machine

/-- The candidate GRAPH_FT8 passes the graph construction check (`20_memory.md` rules R47, R62). -/
theorem graphFT8_wf : Config.graphFT8.wf = true := by decide +kernel

/-- `State.reset` is the reset of rule R201 on the candidate hardware: step 2's check passes, so
GFAIL is 0. -/
theorem reset_eq_resetWith : State.reset = State.resetWith Config.graphFT8 .platform := by
  unfold State.resetWith
  rw [graphFT8_wf]
  rfl

/-- The ROM of the reset state is a memory in canonical form. -/
theorem romCells_reset_wf : Memory.wf (romCells State.reset.graph) = true := romCells_wf _

/-- No command faults or is refused by the model (`60_exceptions.md` rule R180). -/
theorem exec_next (i : Instr) (s : State) : ∃ t : State, exec i s = .next t := by
  cases i <;> exact ⟨_, rfl⟩

/-- No step faults or is refused by the model. -/
theorem step_next (s : State) : ∃ t : State, step s = .next t := by
  unfold step
  split
  · exact ⟨_, rfl⟩
  · split
    · exact exec_next _ _
    · exact ⟨_, rfl⟩

end Sys2Proof.Laws
end

