-- ==== Sys2Proof/Tests/Slice0.lean ====
section
/-! SUPPORT. The author's own tests. Expected values come from the spec: the encodings of
`30_encoding.md` rules R75, R79, R81 and the vectors T-… of `95_test_vectors.md`, named in each
comment; what has no vector is computed by hand from the rule named. The last part shows, for each
statement with hypotheses, a concrete state and operands that meet them.

The kernel evaluates the tests one after another, so that their memory does not add up. -/

set_option Elab.async false

namespace Sys2Proof.Tests

open Sys2Proof Sys2Proof.Machine

/-! ### Decoding: words written out from the encoding tables (T-ENC-1 to T-ENC-23) -/

theorem test_decode_nop : decodeTableWord 64 0x0000000000000000 = some (.nop 0 0) := by decide

theorem test_decode_clr : decodeTableWord 64 0x0100000000000000 = some (.clr 0 0) := by decide

theorem test_decode_gchk : decodeTableWord 64 0x0200000000000000 = some (.gchk 0 0) := by decide

theorem test_decode_setit : decodeTableWord 64 0x030000000000000A = some (.setit 0 10) := by decide

theorem test_decode_llrp : decodeTableWord 64 0x1000000041000000 = some (.llrp 0 0x41000000) := by decide

theorem test_decode_dec : decodeTableWord 64 0x1100000000000000 = some (.dec 0 0) := by decide

theorem test_decode_cww : decodeTableWord 64 0x1200000500002AAA = some (.cww 5 0x2AAA) := by decide

theorem test_decode_syn : decodeTableWord 64 0x1300000000000000 = some (.syn 0 0) := by decide

theorem test_decode_pay : decodeTableWord 64 0x1400000000000000 = some (.pay 0 0) := by decide

theorem test_decode_rdst : decodeTableWord 64 0x2000000000000000 = some (.rdst 0 0) := by decide

theorem test_decode_rdit : decodeTableWord 64 0x2100000000000000 = some (.rdit 0 0) := by decide

theorem test_decode_rdcw : decodeTableWord 64 0x2200000500000000 = some (.rdcw 5 0) := by decide

theorem test_decode_rdpl : decodeTableWord 64 0x2300000200000000 = some (.rdpl 2 0) := by decide

theorem test_decode_rdsy : decodeTableWord 64 0x2400000100000000 = some (.rdsy 1 0) := by decide

theorem test_decode_rdllr : decodeTableWord 64 0x250000AD00000000 = some (.rdllr 173 0) := by decide

theorem test_decode_rdtot : decodeTableWord 64 0x2600000100000000 = some (.rdtot 1 0) := by decide

theorem test_decode_rdmsg : decodeTableWord 64 0x2700065C00000000 = some (.rdmsg 0x65C 0) := by decide

theorem test_decode_chkof : decodeTableWord 64 0x3000000400000000 = some (.chkof 4 0) := by decide

theorem test_decode_bitof : decodeTableWord 64 0x3100010100000000 = some (.bitof 0x101 0) := by decide

theorem test_decode_romrd : decodeTableWord 64 0x3200040C00000000 = some (.romrd 0x40C 0) := by decide

/-- Every bit of A and D is carried: OP, A and D all written out in full. -/
theorem test_decode_all_fields :
    decodeTableWord 64 0x12ABCDEF12345678 = some (.cww 0xABCDEF 0x12345678) := by decide

/-- T-ENC-21 to T-ENC-23. -/
theorem test_decode_unassigned :
    decodeTableWord 64 0x0400000000000000 = none ∧ decodeTableWord 64 0xFFFFFFFFFFFFFFFF = none ∧
      decodeTableWord 64 0x1500000000000000 = none ∧ decodeTableWord 64 0x3300000000000000 = none := by
  decide

/-- Rule R54: `RDMSG R, 92, 2` and `BITOF 1, 1`. -/
theorem test_packed_operands :
    packMessageIndex true 92 2 = 0x65C ∧ packCheckIndex 1 true = 0x101 := by decide

/-! ### WellFormed refuses an ill-formed term for each check (rule R175's table) -/

theorem test_ill_formed_format_z :
    ([.nop 1 0, .nop 0 1, .clr 1 0, .clr 0 1, .gchk 1 0, .gchk 0 1, .dec 1 0, .dec 0 1, .syn 1 0, .syn 0 1, .pay 1 0, .pay 0 1, .rdst 1 0, .rdst 0 1, .rdit 1 0, .rdit 0 1] : List Instr).all (fun i => !i.wellFormed) = true := by decide

theorem test_ill_formed_setit_llrp :
    ([.setit 1 5, .setit 0 0, .setit 0 256, .llrp 1 0] : List Instr).all (fun i => !i.wellFormed) = true := by decide

theorem test_ill_formed_cww :
    ([.cww 6 0, .cww 5 0x4000] : List Instr).all (fun i => !i.wellFormed) = true := by decide

theorem test_ill_formed_words :
    ([.rdcw 6 0, .rdcw 0 1, .rdpl 3 0, .rdpl 0 1, .rdsy 3 0, .rdsy 0 1] : List Instr).all (fun i => !i.wellFormed) = true := by decide

theorem test_ill_formed_indices :
    ([.rdllr 174 0, .rdllr 0 1, .rdtot 174 0, .rdtot 0 1, .chkof 174 0, .chkof 0 1] : List Instr).all (fun i => !i.wellFormed) = true := by decide

theorem test_ill_formed_packed :
    ([.rdmsg 0 1, .rdmsg 0x800 0, .rdmsg 0xAE 0, .rdmsg 0x300 0, .bitof 0 1, .bitof 0x200 0, .bitof 0x53 0] : List Instr).all (fun i => !i.wellFormed) = true := by decide

theorem test_ill_formed_romrd :
    ([.romrd 0 1, .romrd 0x245 0, .romrd 0x3FF 0, .romrd 0x60A 0] : List Instr).all (fun i => !i.wellFormed) = true := by decide

/-- The largest legal operands are well formed (rule R74). -/
theorem test_well_formed_limits :
    ([.nop 0 0, .setit 0 1, .setit 0 255, .llrp 0 0xFFFFFFFF, .cww 5 0x3FFF, .cww 4 0xFFFFFFFF,
      .rdcw 5 0, .rdpl 2 0, .rdsy 2 0, .rdllr 173 0, .rdtot 173 0, .rdmsg 0x6AD 0, .chkof 173 0,
      .bitof 0x152 0, .romrd 0x244 0, .romrd 0x400 0, .romrd 0x609 0] : List Instr).all
        Instr.wellFormed = true := by decide

/-! ### Arithmetic -/

/-- T-Q-1 to T-Q-27. -/
theorem test_quant :
    ([0x41000000, 0xC1000000, 0x3F800000, 0x3F000000, 0x40200000, 0x40490FD0, 0xC0490FD0, 0x4048F5C3,
      0x3DCCCCCD, 0xBF99999A, 0x3F7FFFFF, 0x3C000000, 0x3B800000, 0xBB800000, 0x3B7FFFFF, 0, 0x80000000,
      1, 0x007FFFFF, 0x00800000, 0x42FFFDFF, 0x42FFFE00, 0x42FFFFFF, 0x43000000, 0xC3000000,
      0x7F7FFFFF, 0xFF7FFFFF] : List (BitVec 32)).map quant =
    [2048, -2048, 256, 128, 640, 804, -804, 803, 25, -307, 255, 2, 1, -1, 0, 0, 0, 0, 0, 0, 32766,
      32767, 32767, 32767, -32767, 32767, -32767] := by decide +kernel

/-- T-Q-26 to T-Q-32. -/
theorem test_nonfinite :
    ([0x7F7FFFFF, 0xFF7FFFFF, 0x7F800000, 0xFF800000, 0x7FC00000, 0x7F800001, 0x7FA00000,
      0xFFFFFFFF] : List (BitVec 32)).map nonfinite =
    [false, false, true, true, true, true, true, true] := by decide

/-- T-C2B-1, 5, 7, 10. -/
theorem test_checkMessage :
    (List.range 6).map (checkMessage [512, -256, 768, 1024, -128, 2048]) =
      [128, -128, 128, 128, -256, 128] ∧
    (List.range 7).map (checkMessage (List.replicate 7 (-2048))) = List.replicate 7 2048 ∧
    (List.range 6).map (checkMessage [300, 0, -500, 700, 900, -1100]) = [0, 300, 0, 0, 0, 0] ∧
    (List.range 6).map (checkMessage [32767, -32767, 32767, 32767, 32767, 32767]) =
      [-32767, 32767, -32767, -32767, -32767, -32767] := by decide +kernel

/-- A state whose bit `b` has the given L and R. -/
def bitNode (b : Fin 174) (l r0 r1 r2 : Int) : State :=
  { State.reset with l := zeroBits.set b l, r := zeroMessages.set b #v[r0, r1, r2] }

/-- TOT, Q[b][2] and CW of a bit after B2C and HARD. -/
def bitNodeResult (b : Fin 174) (l r0 r1 r2 : Int) : Int × Int × Bool :=
  let t := (bitNode b l r0 r1 r2).b2c
  (t.tot[b], t.q[b][2], t.hard.cw.getLsbD b)

/-- T-B2C-1, 2, 4, 5. -/
theorem test_b2c_hard :
    bitNodeResult 7 (-256) 128 (-128) 2048 = (1792, -256, false) ∧
    bitNodeResult 173 32767 32767 32767 (-5) = (98296, 32767, false) ∧
    bitNodeResult 0 (-32767) (-32767) (-32767) (-32767) = (-131068, -32767, true) ∧
    bitNodeResult 5 100 (-50) (-50) 0 = (0, 0, true) := by
  have h : ∀ (b : Fin 174) (l r0 r1 r2 : Int), bitNodeResult b l r0 r1 r2 =
      (let s := bitNode b l r0 r1 r2
       let x := totalBelief s.l s.r b.val
       (x, sat (x - messageAt s.r b.val 2), decide (x ≤ 0))) := by
    intro b l r0 r1 r2
    simp only [bitNodeResult, State.hard, State.b2c, getLsbD_bitSeq]
    simp [bitAt_eq_getElem]
  simp only [h]
  decide +kernel

/-- T-PAY-5, each sequence written element 0 first. -/
theorem test_crc14 :
    ([0, 1#77 <<< 76, 1, BitVec.allOnes 77] : List Payload).map
        (fun p => (List.range 14).map fun i => (crc14FT8 p).getLsbD i) =
      ["00000000000000", "11100001110100", "10101111111000", "00011110110001"].map
        (fun s => s.toList.map (· == '1')) := by decide +kernel

/-! ### One step on a small state -/

/-- The response of a command. -/
def response (i : Instr) (s : State) : Option ResponseWord :=
  match exec i s with
  | .next t => t.response
  | .fault _ => none
  | .refused _ => none

/-- The state after a command. -/
def after (i : Instr) (s : State) : State :=
  match exec i s with
  | .next t => t
  | .fault _ => s
  | .refused _ => s

/-- The response words of rules R72, R73. -/
def ok (data : Nat) : Option ResponseWord := some (BitVec.ofNat 40 data)
def errOpcode : Option ResponseWord := some 0x0100000000
def errOperand : Option ResponseWord := some 0x0200000000
def errGraph : Option ResponseWord := some 0x0300000000
def errInput (data : Nat) : Option ResponseWord := some (BitVec.ofNat 40 (0x0400000000 + data))

/-- A context of a block whose graph check failed. -/
def badGraph : State := { State.reset with gfail := true }

/-- A context with the candidate checksum and a codeword. -/
def holding (cw : Codeword) : State := { State.reset with checksumUnit := .crc14FT8, cw := cw }

/-- The codeword of six packed words. -/
def codeword (w5 w4 w3 w2 w1 w0 : BitVec 32) : Codeword :=
  (w5 ++ w4 ++ w3 ++ w2 ++ w1 ++ w0).setWidth 174

/-- CW_REF and BAD-CK of `95_test_vectors.md` section 2. -/
def cwRef : Codeword := codeword 0x00000AFD 0x1DB6CF47 0x9AFB84AF 0xD0A55A5A 0x5A5A5A5A 0x5A5A5A5A
def badCk : Codeword := codeword 0x00000228 0xD300DDCC 0x1FE3B5E8 0x04A55A5A 0x5A5A5A5A 0x5A5A5A5A

/-- A context with the same word at every input element and the given count. -/
def pushed (w : BitVec 32) (n : BitVec 8) : State :=
  { State.reset with llrBuf := Vector.replicate 174 w, llrCnt := n }

/-- A graph of no checks at all: ill formed, so no block has it and GFAIL = 0; it makes one pass of
DEC's loop small. -/
def noChecks : GraphRom :=
  ⟨Vector.replicate 83 (Vector.replicate 7 0), Vector.replicate 174 (Vector.replicate 3 0)⟩

/-- The same with one check, on bit 0 alone. -/
def oneCheck : GraphRom := { noChecks with nm := noChecks.nm.set 0 #v[1, 0, 0, 0, 0, 0, 0] }

/-- A vector of +8.0 on the graph of no checks, after an attempt that failed. -/
def convergent : State :=
  { (pushed 0x41000000 174) with
    graph := noChecks, checksumUnit := .crc14FT8, res := .inputInvalid, iil := true }

/-- T-CTL-1, T-ENC-24. -/
theorem test_nop : response (.nop 0 0) State.reset = ok 0 ∧ response (.nop 0 1) State.reset = errOperand ∧
    (after (.nop 0 1) State.reset).cerr = true ∧ response (.nop 0 0) badGraph = ok 0 := by
  decide +kernel

/-- T-CTL-2: CERR and MAXITER survive CLR; the input count does not (rule R151). -/
theorem test_clr :
    let s := { (pushed 0x41000000 174) with cerr := true, maxIter := 255, res := .converged, cw := 1 }
    response (.clr 0 0) s = ok 0 ∧ (after (.clr 0 0) s).cerr = true ∧
      (after (.clr 0 0) s).maxIter = 255 ∧ (after (.clr 0 0) s).llrCnt = 0 ∧
      (after (.clr 0 0) s).llrBuf = Vector.replicate 174 0 ∧ (after (.clr 0 0) s).cw = 0 ∧
      response (.clr 0 0) badGraph = errGraph := by decide +kernel

/-- GRAPH_FT8 with one raw entry of NM_RAW changed. -/
def changedNm (c : Fin 83) (k : Fin 7) (v : BitVec 8) : GraphRom :=
  { Config.graphFT8 with nm := Config.graphFT8.nm.set c (Config.graphFT8.nm[c].set k v) }

/-- T-WF-1, T-WF-4, T-WF-6, and the response of GCHK on a block built on T-WF-1. -/
theorem test_gchk :
    (changedNm 0 0 5).wf = false ∧ (changedNm 0 6 4).wf = false ∧ (changedNm 0 1 175).wf = false ∧
      response (.gchk 0 0) { badGraph with graph := changedNm 0 0 5 } = ok 1 := by decide +kernel

/-- T-WF-2, T-WF-3, T-WF-5. -/
theorem test_wf_fails :
    { Config.graphFT8 with mn := Config.graphFT8.mn.set 0 #v[17, 45, 73] }.wf = false ∧
      { Config.graphFT8 with nm := Config.graphFT8.nm.set 0 #v[4, 31, 0, 91, 92, 96, 59] }.wf = false ∧
      { Config.graphFT8 with mn := Config.graphFT8.mn.set 3 #v[1, 1, 45] }.wf = false := by decide +kernel

/-- T-CTL-2. -/
theorem test_setit : (after (.setit 0 10) State.reset).maxIter = 10 ∧
    response (.setit 0 255) State.reset = ok 0 ∧ response (.setit 0 256) State.reset = errOperand ∧
    response (.setit 0 0) State.reset = errOperand := by decide +kernel

/-- Rule R100: the 174th push is stored, the 175th counts only, the counter sticks at 255. -/
theorem test_llrp :
    (after (.llrp 0 7) (pushed 5 173)).llrBuf[173] = 7 ∧ response (.llrp 0 7) (pushed 5 173) = ok 0xAE ∧
      (after (.llrp 0 7) (pushed 5 174)).llrBuf = (pushed 5 174).llrBuf ∧
      response (.llrp 0 7) (pushed 5 255) = ok 0xFF := by decide +kernel

/-- Examples of rule R176. -/
theorem test_dec_input :
    response (.dec 0 0) State.reset = errInput 0x43 ∧
      response (.dec 0 0) (pushed 0x41000000 173) = errInput 0x00AD0043 ∧
      response (.dec 0 0) (pushed 0x41000000 175) = errInput 0x00AF0043 ∧
      response (.dec 0 0) (pushed 0x7FC00000 174) = errInput 0x00AE0083 ∧
      response (.dec 0 0) (pushed 0x7F800000 3) = errInput 0x000300C3 ∧
      response (.dec 0 1) State.reset = errOperand := by decide +kernel

/-- Rules R104, R113 by hand on two tiny graphs: with no check a word converges at once, and +8.0
gives the zero word, Valid under CRC14_FT8 (T-PAY-2); a check of bit 0 alone sends it the empty
product and minimum, 0, so with −8.0 the bit stays 1, the check stays violated, and the budget 1 is
used up. -/
theorem test_dec_loop :
    (let t := after (.dec 0 0) convergent
     (t.response, t.status, t.iter, t.cw, t.res, t.pv) =
       (ok 0x00AE0035, 0x00AE0035, 1, 0, .converged, .valid)) ∧
    (let t := after (.dec 0 0) { (pushed 0xC1000000 174) with graph := oneCheck, maxIter := 1 }
     (t.response, t.iter, t.syn, t.pld) = (ok 0x00AE0012, 1, 1, 0)) := by decide +kernel

/-- T-SYN-2, T-SYN-6. -/
theorem test_cww :
    (after (.cww 0 1) { (holding (BitVec.allOnes 174)) with pv := .valid, pld := 5, sok := true }).cw =
        (BitVec.allOnes 174) - 0xFFFFFFFE ∧
      response (.cww 5 0x3FFF) State.reset = ok 0 ∧ (after (.cww 5 0x2000) State.reset).cw = 1 <<< 173 ∧
      response (.cww 5 0x4000) State.reset = errOperand ∧ response (.cww 6 0) State.reset = errOperand := by
  decide +kernel

/-- T-SYN-2, T-SYN-3, T-SYN-5. -/
theorem test_syn :
    response (.syn 0 0) (holding 1) = ok 3 ∧ (after (.syn 0 0) (holding 1)).syn = (1 <<< 15) + (1 <<< 44) + (1 <<< 72) ∧
      response (.syn 0 0) (holding cwRef) = ok 0 ∧
      response (.syn 0 0) (holding (BitVec.allOnes 174)) = ok 24 := by decide +kernel

/-- T-SYN-3, T-SYN-7, T-PAY-2, T-PAY-3, T-PAY-4. -/
theorem test_pay :
    response (.pay 0 0) (holding cwRef) = ok 1 ∧
      (after (.pay 0 0) (holding cwRef)).pld = 0x1A5A5A5A5A5A5A5A5A5A ∧
      response (.pay 0 0) (holding 0) = ok 1 ∧ response (.pay 0 0) (holding 1) = ok 2 ∧
      response (.pay 0 0) (holding badCk) = ok 2 := by decide +kernel

/-- T-CTL-1 and the STATUS of a state with every field set (rule R29). -/
theorem test_rdst :
    response (.rdst 0 0) State.reset = ok 0 ∧ response (.rdst 0 0) badGraph = ok 0x100 ∧
      response (.rdst 0 0)
        { (pushed 0 0xAE) with
          res := .inputInvalid, pv := .checksumMismatch, synv := true, sok := true, iil := true
          iin := true, gfail := true, cerr := true } = ok 0x00AE03FB := by decide +kernel

/-- T-CTL-1. -/
theorem test_rdit : response (.rdit 0 0) State.reset = ok 0x1900 ∧
    response (.rdit 0 0) { State.reset with iter := 4 } = ok 0x1904 := by decide +kernel

/-- T-SYN-6 and program P3. -/
theorem test_rdcw : response (.rdcw 2 0) (holding cwRef) = ok 0xD0A55A5A ∧
    response (.rdcw 5 0) (holding cwRef) = ok 0xAFD ∧
    response (.rdcw 6 0) State.reset = errOperand := by decide +kernel

/-- T-PAY-1. -/
theorem test_rdpl :
    response (.rdpl 0 0) { State.reset with pld := payloadOf cwRef } = ok 0x5A5A5A5A ∧
      response (.rdpl 2 0) { State.reset with pld := payloadOf cwRef } = ok 0x1A5A ∧
      response (.rdpl 3 0) State.reset = errOperand := by decide +kernel

/-- T-SYN-2, T-SYN-5. -/
theorem test_rdsy :
    let s := { State.reset with syn := syndromeOf Config.graphFT8 (BitVec.allOnes 174) }
    response (.rdsy 0 0) s = ok 0x222A3251 ∧ response (.rdsy 1 0) s = ok 0x884430C4 ∧
      response (.rdsy 2 0) s = ok 0x8098 ∧ response (.rdsy 3 0) s = errOperand := by decide +kernel

/-- Program P3, T-ERR-5. -/
theorem test_rdllr : response (.rdllr 1 0) { State.reset with l := zeroBits.set 1 (-2048) } = ok 0xFFFFF800 ∧
    response (.rdllr 173 0) State.reset = ok 0 ∧ response (.rdllr 174 0) State.reset = errOperand := by
  decide +kernel

/-- Program P3, T-ERR-5; the lowest TOT there is. -/
theorem test_rdtot : response (.rdtot 0 0) { State.reset with tot := zeroBits.set 0 8192 } = ok 0x2000 ∧
    response (.rdtot 173 0) { State.reset with tot := zeroBits.set 173 (-131068) } = ok 0xFFFE0004 ∧
    response (.rdtot 174 0) State.reset = errOperand := by decide +kernel

/-- Program P3, T-ERR-6: bit 10 of A picks R. -/
theorem test_rdmsg :
    let s := { State.reset with
      q := zeroMessages.set 173 #v[1, 2, 6144], r := zeroMessages.set 173 #v[3, 4, -2048] }
    response (.rdmsg 0x2AD 0) s = ok 6144 ∧ response (.rdmsg 0x6AD 0) s = ok 0xFFFFF800 ∧
      response (.rdmsg 0x300 0) s = errOperand ∧ response (.rdmsg 0xAE 0) s = errOperand ∧
      response (.rdmsg 0x800 0) s = errOperand := by decide +kernel

/-- T-G-1, T-G-4, T-G-5. -/
theorem test_chkof : response (.chkof 0 0) State.reset = ok 0x00482C0F ∧
    response (.chkof 173 0) State.reset = ok 0x00383029 ∧
    response (.chkof 174 0) State.reset = errOperand := by decide +kernel

/-- T-G-6, T-G-8, T-G-9, T-G-10. -/
theorem test_bitof : response (.bitof 0 0) State.reset = ok 0x5A3A1E03 ∧
    response (.bitof 0x100 0) State.reset = ok 0x07985F5B ∧
    response (.bitof 0x152 0) State.reset = ok 0x06FFABA9 ∧
    response (.bitof 0x53 0) State.reset = errOperand ∧
    response (.bitof 0x200 0) State.reset = errOperand := by decide +kernel

/-- T-G-12, T-G-14 to T-G-19. -/
theorem test_romrd : response (.romrd 6 0) State.reset = ok 153 ∧
    response (.romrd 13 0) State.reset = ok 0 ∧ response (.romrd 0x244 0) State.reset = ok 0 ∧
    response (.romrd 0x245 0) State.reset = errOperand ∧ response (.romrd 0x400 0) badGraph = ok 16 ∧
    response (.romrd 0x609 0) State.reset = ok 57 := by decide +kernel

/-- What a step on an issued word answers. -/
def stepResponse (s : State) (w : Nat) : Option ResponseWord :=
  match step (s.withFetchWord 64 w) with
  | .next t => t.response
  | .fault _ => none
  | .refused _ => none

/-- T-ERR-1, and the end of section 3.5: an unassigned opcode with and without GFAIL. -/
theorem test_step : stepResponse State.reset 0x0400000000000000 = errOpcode ∧
    stepResponse State.reset 0xFFFFFFFFFFFFFFFF = errOpcode ∧
    stepResponse badGraph 0xFF00000000000000 = errGraph ∧
    stepResponse State.reset 0x3200040000000000 = ok 16 := by decide +kernel

/-- The ROM by address, listed and unlisted. -/
theorem test_rom_memory : Memory.read (romCells Config.graphFT8) 0x244 = some 0 ∧
    Memory.read (romCells Config.graphFT8) 0x245 = none ∧
    Memory.read (romCells Config.graphFT8) 0x609 = some 57 := by decide +kernel

/-! ### Witnesses: for each statement with hypotheses, a state and operands that meet them -/

/-- A context with a finite vector of 174 words, ready for DEC. -/
def ready : State := pushed 0x41000000 174

/-- A context whose next command is `w`. -/
def issued (w : Nat) : State := State.reset.withFetchWord 64 w

theorem pushed_finite (w : BitVec 32) (n : BitVec 8) (h : w.toNat / 2 ^ 23 % 256 ≠ 255) :
    (pushed w n).FiniteInput := by
  intro i hi _
  simpa [pushed] using h

theorem ready_finite : ready.FiniteInput := pushed_finite _ _ (by decide)

theorem exec_after (i : Instr) (s : State) : exec i s = .next (after i s) := by
  cases i <;> rfl

theorem witness_EncodeOfDecodedWordIsTheWord :
    decode 0x2700065C00000000 = .ok (.rdmsg 0x65C 0) ∧
      decode 0x32FFFFFFFFFFFFFF = .ok (.romrd 0xFFFFFF 0xFFFFFFFF) := by decide

theorem witness_StepRunsTheDecodedCommand :
    (issued 0x1200000500002AAA).commands = 0x1200000500002AAA :: [] ∧
      decode 0x1200000500002AAA = .ok (.cww 5 0x2AAA) := by decide

theorem witness_PortDecidesWhatRuns :
    State.reset.commands = [] ∧ decode (BitVec.ofNat 64 0x0100000000000000) = .ok (.clr 0 0) := by
  decide

theorem witness_EveryCommandWordGetsOneResponse :
    (issued 0x1100000000000000).commands = 0x1100000000000000 :: [] ∧
      (issued 0xFF00000000000000).commands = 0xFF00000000000000 :: [] := by decide

/-- Both ends of each range of rule R77, with GFAIL 0 and 1. -/
theorem witness_UnassignedOpcodeIsRefused :
    (∀ op ∈ [0x04, 0x0F, 0x15, 0x1F, 0x28, 0x2F, 0x33, 0xFF],
      UnassignedOpcode ((BitVec.ofNat 64 (op * 2 ^ 56)).toNat / 2 ^ 56) ∧
      (issued (op * 2 ^ 56)).commands = BitVec.ofNat 64 (op * 2 ^ 56) :: []) ∧
    State.reset.gfail = false ∧ badGraph.gfail = true := by decide

theorem witness_MalformedCommandsAreRefused :
    Instr.wellFormed (.cww 5 0x4000) = false ∧ State.reset.gfail = false ∧
      Instr.wellFormed (.rdst 1 0) = false ∧ Instr.runsOnBadGraph (.rdst 1 0) = true ∧
      badGraph.gfail = true ∧
      Instr.wellFormed (.cww 5 0x3FFF) = true ∧
      exec (.cww 5 0x3FFF) State.reset = .next (after (.cww 5 0x3FFF) State.reset) :=
  ⟨by decide, by decide, by decide, by decide, by decide, by decide, exec_after _ _⟩

theorem witness_BadGraphRefusesWorkingCommands :
    badGraph.gfail = true ∧
      (Instr.opcode (.dec 0 0) ≠ 0x00 ∧ Instr.opcode (.dec 0 0) ≠ 0x02 ∧
        Instr.opcode (.dec 0 0) ≠ 0x20 ∧ Instr.opcode (.dec 0 0) ≠ 0x32) ∧
      Instr.opcode (.nop 0 0) = 0x00 ∧ Instr.opcode (.gchk 0 0) = 0x02 ∧
      Instr.opcode (.rdst 0 0) = 0x20 ∧ Instr.opcode (.romrd 0 0) = 0x32 := by decide

/-- Too short, too long, a NaN, and both causes at once. -/
theorem witness_InvalidInputClearsTheContext :
    ((pushed 0x41000000 173).gfail = false ∧ (pushed 0x41000000 173).llrCnt.toNat ≠ 174 ∧
      (pushed 0x41000000 173).FiniteInput) ∧
    (pushed 0x41000000 175).llrCnt.toNat ≠ 174 ∧
    ((pushed 0x7FC00000 174).gfail = false ∧ (pushed 0x7FC00000 174).llrCnt.toNat = 174 ∧
      ∃ i, ∃ h : i < 174, i < (pushed 0x7FC00000 174).llrCnt.toNat ∧
        (pushed 0x7FC00000 174).llrBuf[i].toNat / 2 ^ 23 % 256 = 255) ∧
    ((pushed 0x7F800000 1).llrCnt.toNat ≠ 174 ∧
      ∃ i, ∃ h : i < 174, i < (pushed 0x7F800000 1).llrCnt.toNat ∧
        (pushed 0x7F800000 1).llrBuf[i].toNat / 2 ^ 23 % 256 = 255) :=
  ⟨⟨by decide, by decide, pushed_finite _ _ (by decide)⟩, by decide,
    ⟨by decide, by decide, 173, by decide, by decide, by simp [pushed]⟩,
    by decide, 0, by decide, by decide, by simp [pushed]⟩

theorem witness_AccessorsNormaliseTheTables :
    82 < 83 ∧ 173 < 174 ∧ Config.graphFT8.wf = true :=
  ⟨by decide, by decide, Laws.graphFT8_wf⟩

theorem witness_EdgeSlotsAreABijection :
    Config.graphFT8.wf = true ∧ 82 ∈ List.range 83 ∧ 171 ∈ Config.graphFT8.bitsOf 82 :=
  ⟨Laws.graphFT8_wf, by decide, by decide +kernel⟩

theorem witness_TwentyFourChecksHaveDegreeSeven : Config.graphFT8.wf = true := Laws.graphFT8_wf

/-- A subnormal, the last exponent below saturation and the first above, the largest finite. -/
theorem witness_QuantisationTruncatesAndSaturates :
    ([0x807FFFFF, 0x46FFFFFF, 0x47000000, 0x7F7FFFFF] : List (BitVec 32)).all
      (fun w => w.toNat / 2 ^ 23 % 256 != 255) = true := by decide

theorem witness_CheckMessagesAreMinSumOfTheOthers :
    State.reset.graph.wf = true ∧ 6 < State.reset.graph.deg 0 ∧ 5 < State.reset.graph.deg 82 :=
  ⟨Laws.graphFT8_wf, by decide +kernel, by decide +kernel⟩

/-- CW_REF carries its payload's checksum; with element 77 alone set, a word does not. -/
theorem witness_PayvComparesTheChecksum :
    ((∀ i, i < 77 → (payloadOf cwRef).getLsbD i = (holding cwRef).cw.getLsbD i) ∧
      ∀ i, i < 14 → (checksumBy (holding cwRef).checksumUnit (payloadOf cwRef)).getLsbD i =
        (holding cwRef).cw.getLsbD (77 + i)) ∧
    ((∀ i, i < 77 → (0 : Payload).getLsbD i = (holding (1 <<< 77)).cw.getLsbD i) ∧
      ∃ i, i < 14 ∧ (checksumBy (holding (1 <<< 77)).checksumUnit 0).getLsbD i ≠
        (holding (1 <<< 77)).cw.getLsbD (77 + i)) := by
  refine ⟨⟨by decide +kernel, by decide +kernel⟩, by decide +kernel, 0, by decide +kernel⟩

/-- The states x of the statement, from `ready`. -/
def passes : Nat → State
  | 0 => { ready with iil := false, iin := false }.initContext
  | k + 1 => { passes k with iter := (passes k).iter + 1 }.c2b.b2c.hard.synd

theorem witness_DecIsTheIteratedMicroOperations :
    ready.gfail = false ∧ ready.llrCnt.toNat = 174 ∧ ready.FiniteInput ∧ 1 ≤ ready.maxIter.toNat ∧
      passes 0 = { ready with iil := false, iin := false }.initContext ∧
      ∀ k, passes (k + 1) = { passes k with iter := (passes k).iter + 1 }.c2b.b2c.hard.synd :=
  ⟨rfl, rfl, ready_finite, by decide, rfl, fun _ => rfl⟩

/-- The budgets 1 and 255. -/
theorem witness_DecEndsWithinItsBudget :
    ready.gfail = false ∧ ready.llrCnt.toNat = 174 ∧ ready.FiniteInput ∧
      1 ≤ ({ ready with maxIter := 1 } : State).maxIter.toNat ∧
      1 ≤ ({ ready with maxIter := 255 } : State).maxIter.toNat :=
  ⟨rfl, rfl, ready_finite, by decide, by decide⟩

theorem witness_SequencerTicksAreOneDec :
    ready.phase = .idle ∧ ready.gfail = false ∧ ready.llrCnt.toNat = 174 ∧ ready.FiniteInput ∧
      exec (.dec 0 0) ready = .next (after (.dec 0 0) ready) :=
  ⟨rfl, rfl, rfl, ready_finite, exec_after _ _⟩

/-- Converged and Valid, on the graph of no checks, with the status word answered. -/
theorem witness_DecConvergedMeansCodeword :
    exec (.dec 0 0) convergent = .next (after (.dec 0 0) convergent) ∧
      (after (.dec 0 0) convergent).response =
        some (responseWord .ok (after (.dec 0 0) convergent).status) ∧
      (after (.dec 0 0) convergent).res = .converged ∧
      (after (.dec 0 0) convergent).pv = .valid := by
  have h := test_dec_loop.1
  simp only [Prod.mk.injEq] at h
  refine ⟨exec_after _ _, ?_, h.2.2.2.2.1, h.2.2.2.2.2⟩
  rw [h.1, h.2.1]
  decide

theorem witness_DecIsIdempotent :
    exec (.dec 0 0) ready = .next (after (.dec 0 0) ready) ∧
      exec (.dec 0 0) State.reset = .next (after (.dec 0 0) State.reset) :=
  ⟨exec_after _ _, exec_after _ _⟩

/-- Two contexts that differ in their old results and in CERR. -/
theorem witness_DecDependsOnlyOnItsInput :
    let u := { ready with cw := 1, syn := 1, iter := 9, res := .converged, pv := .valid, cerr := true }
    ready.cerr ≠ u.cerr ∧ ready.iter ≠ u.iter ∧ ready.gfail = false ∧ u.gfail = false ∧ ready.llrBuf = u.llrBuf ∧
      ready.llrCnt = u.llrCnt ∧ ready.maxIter = u.maxIter ∧ ready.graph = u.graph ∧
      ready.checksumUnit = u.checksumUnit ∧ exec (.dec 0 0) ready = .next (after (.dec 0 0) ready) ∧
      exec (.dec 0 0) u = .next (after (.dec 0 0) u) :=
  ⟨by decide, by decide, rfl, rfl, rfl, rfl, rfl, rfl, rfl,
    exec_after _ _, exec_after _ _⟩

theorem witness_LargerBudgetKeepsAConvergedResult :
    1 ≤ convergent.maxIter.toNat ∧ convergent.maxIter.toNat ≤ (255 : BitVec 8).toNat ∧
      exec (.dec 0 0) convergent = .next (after (.dec 0 0) convergent) ∧
      (after (.dec 0 0) convergent).res = .converged :=
  ⟨by decide, by decide, exec_after _ _, witness_DecConvergedMeansCodeword.2.2.1⟩

/-- The vectors of program P5: +0.0, −0.0, and a value below one unit. -/
theorem witness_NoInformationExhaustsTheBudget :
    ∀ w ∈ ([0x00000000, 0x80000000, 0x3B000000] : List (BitVec 32)),
      (pushed w 174).graph.wf = true ∧ (pushed w 174).gfail = false ∧
      (pushed w 174).llrCnt.toNat = 174 ∧ (pushed w 174).FiniteInput ∧
      1 ≤ (pushed w 174).maxIter.toNat ∧ ∀ i, (h : i < 174) → quant (pushed w 174).llrBuf[i] = 0 := by
  intro w hw
  have h1 : w.toNat / 2 ^ 23 % 256 ≠ 255 ∧ quant w = 0 := by
    simp only [List.mem_cons, List.not_mem_nil, or_false] at hw
    obtain rfl | rfl | rfl := hw <;> decide +kernel
  exact ⟨Laws.graphFT8_wf, rfl, rfl, pushed_finite _ _ h1.1, (by decide : 1 ≤ (25 : BitVec 8).toNat),
    fun i hi => by simpa [pushed] using h1.2⟩

/-- A context with the noiseless vector LLR(cw, 8.0) of section 2. -/
def noiseless (cw : Codeword) : State :=
  { ready with
    checksumUnit := .crc14FT8
    llrBuf := Vector.ofFn fun i => if cw.getLsbD i then 0xC1000000 else 0x41000000 }

/-- BAD-CK, a codeword of GRAPH_FT8 (section 2). -/
theorem badCk_isCodeword : IsCodeword Config.graphFT8 badCk := by
  unfold IsCodeword
  decide +kernel

theorem cwRef_isCodeword : IsCodeword Config.graphFT8 cwRef := by
  unfold IsCodeword
  decide +kernel

/-- CW_REF with the matching checksum, BAD-CK with a mismatch (programs P3 and P7). -/
theorem witness_NoiselessCodewordDecodesAtOnce :
    (∀ w : Codeword, w = cwRef ∨ w = badCk →
      (noiseless w).graph.wf = true ∧ (noiseless w).gfail = false ∧
      (noiseless w).llrCnt.toNat = 174 ∧ (noiseless w).FiniteInput ∧
      1 ≤ (noiseless w).maxIter.toNat ∧ IsCodeword (noiseless w).graph w ∧ (0 : Int) < 2048 ∧
      ∀ i, (h : i < 174) → quant (noiseless w).llrBuf[i] = if w.getLsbD i then -2048 else 2048) ∧
    checksumBy .crc14FT8 (payloadOf cwRef) = checksumOf cwRef ∧
    checksumBy .crc14FT8 (payloadOf badCk) ≠ checksumOf badCk := by
  have hq : quant 0xC1000000 = -2048 ∧ quant 0x41000000 = 2048 := by decide +kernel
  refine ⟨fun w hw => ⟨Laws.graphFT8_wf, rfl, rfl, ?_, (by decide : 1 ≤ (25 : BitVec 8).toNat), ?_, by decide, ?_⟩,
    by decide +kernel, by decide +kernel⟩
  · intro i hi _
    simp only [noiseless, Vector.getElem_ofFn]
    split <;> decide
  · obtain rfl | rfl := hw
    · exact cwRef_isCodeword
    · exact badCk_isCodeword
  · intro i hi
    simp only [noiseless, Vector.getElem_ofFn]
    split
    · exact hq.1
    · exact hq.2

/-- The reset state with the smallest budget has the invariants. -/
theorem smallest_inv : ({ State.reset with maxIter := 1 } : State).Inv := by
  constructor <;> first
    | (show false = !Config.graphFT8.wf; rw [Laws.graphFT8_wf]; rfl)
    | (intros; simp_all [State.reset, State.cleared, zeroBits, zeroMessages, WithinLmax])

theorem witness_DecOutcomesAreReportedDistinctly : ready.gfail = false := rfl

theorem witness_NopOnlyAnswers :
    ((1 : AField) ≠ 0 ∨ (0 : DField) ≠ 0) ∧ ((0 : AField) ≠ 0 ∨ (1 : DField) ≠ 0) := by decide

theorem witness_ClrMakesTheContextFresh :
    badGraph.gfail = true ∧ State.reset.gfail = false ∧ ((1 : AField) ≠ 0 ∨ (0 : DField) ≠ 0) ∧ ((0 : AField) ≠ 0 ∨ (1 : DField) ≠ 0) := by decide

theorem witness_SynCountsTheViolatedChecks :
    badGraph.gfail = true ∧ State.reset.gfail = false ∧ ((1 : AField) ≠ 0 ∨ (0 : DField) ≠ 0) ∧ ((0 : AField) ≠ 0 ∨ (1 : DField) ≠ 0) := by decide

theorem witness_RditReadsIterationsAndBudget :
    badGraph.gfail = true ∧ State.reset.gfail = false ∧ ((1 : AField) ≠ 0 ∨ (0 : DField) ≠ 0) ∧ ((0 : AField) ≠ 0 ∨ (1 : DField) ≠ 0) := by decide

theorem witness_GchkRunsTheGraphCheck :
    ((1 : AField) ≠ 0 ∨ (0 : DField) ≠ 0) ∧ ((0 : AField) ≠ 0 ∨ (1 : DField) ≠ 0) ∧
      State.reset.graph.wf = true ∧ ({ State.reset with graph := noChecks } : State).graph.wf = false :=
  ⟨by decide, by decide, Laws.graphFT8_wf, by decide +kernel⟩

theorem witness_PayReportsTheValidity :
    badGraph.gfail = true ∧ (holding cwRef).gfail = false ∧ ((1 : AField) ≠ 0 ∨ (0 : DField) ≠ 0) ∧ ((0 : AField) ≠ 0 ∨ (1 : DField) ≠ 0) ∧
      checksumBy (holding cwRef).checksumUnit (payloadOf (holding cwRef).cw) =
        checksumOf (holding cwRef).cw ∧
      checksumBy (holding 1).checksumUnit (payloadOf (holding 1).cw) ≠ checksumOf (holding 1).cw := by
  decide +kernel

theorem witness_RdstReadsTheStatusWord :
    ((1 : AField) ≠ 0 ∨ (0 : DField) ≠ 0) ∧ ((0 : AField) ≠ 0 ∨ (1 : DField) ≠ 0) := by decide

theorem witness_SetitSetsTheBudget :
    badGraph.gfail = true ∧ State.reset.gfail = false ∧
      ((1 : AField) ≠ 0 ∨ (1 : DField).toNat = 0) ∧ (0 : DField).toNat = 0 ∧
      255 < (256 : DField).toNat ∧
      1 ≤ (1 : DField).toNat ∧ (255 : DField).toNat ≤ 255 := by decide

theorem witness_LlrpPushesOneValue :
    badGraph.gfail = true ∧ (1 : AField) ≠ 0 ∧
      (pushed 0 0).gfail = false ∧ (pushed 0 173).gfail = false ∧ (pushed 0 174).gfail = false ∧
      (pushed 0 255).gfail = false := by decide

theorem witness_CwwWritesOneCodewordWord :
    badGraph.gfail = true ∧ State.reset.gfail = false ∧ 5 < (6 : AField).toNat ∧
      ((5 : AField).toNat = 5 ∧ (0x4000 : DField).toNat / 2 ^ 14 ≠ 0) ∧ (4 : AField).toNat < 5 ∧
      ((5 : AField).toNat = 5 ∧ (0x3FFF : DField).toNat / 2 ^ 14 = 0) := by decide

theorem witness_RdcwReadsACodewordWord :
    badGraph.gfail = true ∧ State.reset.gfail = false ∧ (1 : DField) ≠ 0 ∧
      5 < (6 : AField).toNat ∧ (0 : AField).toNat ≤ 5 ∧ (5 : AField).toNat ≤ 5 ∧
      State.reset.cw = 0 := by decide

theorem witness_RdplReadsAPayloadWord :
    (badGraph.gfail = true ∧ State.reset.gfail = false ∧ (1 : DField) ≠ 0 ∧
      2 < (3 : AField).toNat ∧ (0 : AField).toNat ≤ 2 ∧ (2 : AField).toNat ≤ 2) ∧
      ({ State.reset with maxIter := 1 } : State).Inv ∧
      ({ State.reset with maxIter := 1 } : State).pv ≠ .valid :=
  ⟨by decide, smallest_inv, by decide⟩

theorem witness_RdsyReadsASyndromeWord :
    (badGraph.gfail = true ∧ State.reset.gfail = false ∧ (1 : DField) ≠ 0 ∧
      2 < (3 : AField).toNat ∧ (0 : AField).toNat ≤ 2 ∧ (2 : AField).toNat ≤ 2) ∧
      ({ State.reset with maxIter := 1 } : State).Inv ∧
      ({ State.reset with maxIter := 1 } : State).synv = false :=
  ⟨by decide, smallest_inv, by decide⟩

theorem witness_RdllrReadsAChannelLlr :
    badGraph.gfail = true ∧ State.reset.gfail = false ∧ (1 : DField) ≠ 0 ∧
      173 < (174 : AField).toNat ∧ (0 : AField).toNat ≤ 173 ∧ (173 : AField).toNat ≤ 173 := by decide

theorem witness_RdtotReadsATotal :
    badGraph.gfail = true ∧ State.reset.gfail = false ∧ (1 : DField) ≠ 0 ∧
      173 < (174 : AField).toNat ∧ (0 : AField).toNat ≤ 173 ∧ (173 : AField).toNat ≤ 173 := by decide

theorem witness_ChkofReadsTheChecksOfABit :
    badGraph.gfail = true ∧ State.reset.gfail = false ∧ (1 : DField) ≠ 0 ∧
      173 < (174 : AField).toNat ∧ (0 : AField).toNat ≤ 173 ∧ (173 : AField).toNat ≤ 173 := by decide

theorem witness_RdmsgReadsAnEdgeMessage :
    badGraph.gfail = true ∧ State.reset.gfail = false ∧ (1 : DField) ≠ 0 ∧
      (0x800 : AField).toNat / 2 ^ 11 ≠ 0 ∧ 173 < (0xAE : AField).toNat % 2 ^ 8 ∧
      (0x300 : AField).toNat / 2 ^ 8 % 4 = 3 ∧
      ([0, 0x2AD, 0x6AD] : List AField).all (fun a => decide (a.toNat / 2 ^ 11 = 0 ∧
        a.toNat % 2 ^ 8 < 174 ∧ a.toNat / 2 ^ 8 % 4 < 3)) = true := by decide

theorem witness_BitofReadsTheBitsOfACheck :
    badGraph.gfail = true ∧ State.reset.gfail = false ∧ (1 : DField) ≠ 0 ∧
      (0x200 : AField).toNat / 2 ^ 9 ≠ 0 ∧ 82 < (0x53 : AField).toNat % 2 ^ 8 ∧
      ([0, 0x52, 0x152] : List AField).all
        (fun a => decide (a.toNat / 2 ^ 9 = 0 ∧ a.toNat % 2 ^ 8 ≤ 82)) = true ∧
      ∃ e : Nat → Nat, ∀ k, e k = if k < State.reset.graph.deg ((0x152 : AField).toNat % 2 ^ 8) then
        (State.reset.graph.bitsOf ((0x152 : AField).toNat % 2 ^ 8)).getD k 0 else 0xFF :=
  ⟨rfl, rfl, by decide, by decide, by decide, by decide, _, fun _ => rfl⟩

theorem witness_RomrdReadsARawEntry :
    (1 : DField) ≠ 0 ∧
      ([0x245, 0x3FF] : List AField).all (fun a => decide (0x245 ≤ a.toNat ∧ a.toNat ≤ 0x3FF)) = true ∧
      0x60A ≤ (0x60A : AField).toNat ∧ (0x244 : AField).toNat = 7 * 82 + 6 ∧
      (0x400 : AField).toNat = 0x400 + 3 * 0 + 0 ∧ (0x609 : AField).toNat = 0x400 + 3 * 173 + 2 := by decide

/-- Power-up, a context reset in the middle of its work, and the last context of a block of two. -/
theorem witness_ResetLeavesTheStatedValues :
    (∃ s : State, s = State.resetWith noChecks .crc14FT8) ∧
    (convergent.graph = noChecks ∧ convergent.checksumUnit = .crc14FT8 ∧
      ∃ s : State, s = convergent.externalReset) ∧
    ((⟨[ready, convergent]⟩ : Block).contexts[1]? = some convergent ∧
      (⟨[ready, convergent]⟩ : Block).externalReset.contexts[1]? =
        some convergent.externalReset) :=
  ⟨⟨_, rfl⟩, ⟨rfl, rfl, _, rfl⟩, rfl, rfl⟩

/-- A context after a DEC that was refused for its length. -/
def invalidInput : State := { State.reset with res := .inputInvalid, iil := true }

theorem invalidInput_inv : invalidInput.Inv := by
  constructor <;> first
    | (show false = !Config.graphFT8.wf; rw [Laws.graphFT8_wf]; rfl)
    | (intros; simp_all [invalidInput, State.reset, State.cleared, zeroBits, zeroMessages,
        WithinLmax])

/-- A context that converged to the zero word, with a checksum mismatch. -/
def converged : State :=
  { State.reset with
    res := .converged, pv := .checksumMismatch, synv := true, sok := true, iter := 25 }

theorem converged_inv : converged.Inv := by
  constructor <;> first
    | (show false = !Config.graphFT8.wf; rw [Laws.graphFT8_wf]; rfl)
    | (intros; simp_all [converged, State.reset, State.cleared, zeroBits, zeroMessages, WithinLmax,
        onesInCheck])

/-- A context that used up its budget of 25 and holds the word with element 0 alone set, which
violates checks 15, 44 and 72 (T-SYN-2). -/
def exceeded : State :=
  { State.reset with
    res := .maxIterationsExceeded, cw := 1, syn := (1 <<< 15) + (1 <<< 44) + (1 <<< 72)
    synv := true, iter := 25 }

theorem exceeded_inv : exceeded.Inv := by
  constructor
  case gfail_is_check => show false = !Config.graphFT8.wf; rw [Laws.graphFT8_wf]; rfl
  case syn_is_parity =>
    have h : ∀ c, c < 83 → (exceeded.syn.getLsbD c = true ↔
        onesInCheck exceeded.graph exceeded.cw c % 2 = 1) := by decide +kernel
    exact fun _ => h
  case sok_is_zero =>
    have h : exceeded.sok = true ↔ exceeded.syn = 0 := by decide +kernel
    exact fun _ => h
  all_goals
    intros
    simp_all [exceeded, State.reset, State.cleared, zeroBits, zeroMessages, WithinLmax]

/-- An answered DEC; each item with its premise on RES met; a refused input with a good graph. -/
theorem witness_DecItemsEndOnlyBySetitSynAndPay :
    (invalidInput.Inv ∧ exec (.dec 0 0) invalidInput = .next (after (.dec 0 0) invalidInput) ∧
      (after (.dec 0 0) invalidInput).response =
        some (responseWord .errInput (after (.dec 0 0) invalidInput).status)) ∧
    (converged.Inv ∧ converged.res = .converged ∧ converged.ConvergedItem) ∧
    (exceeded.Inv ∧ exceeded.res = .maxIterationsExceeded ∧ exceeded.ExceededItem) ∧
    (invalidInput.Inv ∧ invalidInput.res = .inputInvalid ∧ invalidInput.InvalidItem ∧
      invalidInput.gfail = false) ∧
    (∀ i ∈ ([.pay 0 0, .syn 0 0] : List Instr), i.opcode ≠ 0x03) ∧
    (Instr.opcode (.syn 0 0) ≠ 0x03 ∧ Instr.opcode (.syn 0 0) ≠ 0x14) ∧
    Instr.opcode (.setit 0 1) ≠ 0x13 ∧ Instr.opcode (.setit 0 1) ≠ 0x14 :=
  ⟨⟨invalidInput_inv, exec_after _ _, by decide +kernel⟩,
    ⟨converged_inv, rfl, by unfold State.ConvergedItem; decide⟩,
    ⟨exceeded_inv, rfl, by unfold State.ExceededItem; decide⟩,
    ⟨invalidInput_inv, rfl, by unfold State.InvalidItem; decide +kernel, rfl⟩,
    by decide, by decide, by decide⟩

theorem witness_InvariantsAreKeptByEveryStep :
    ({ State.reset with maxIter := 1 } : State).Inv ∧
      ∃ t : State, step { State.reset with maxIter := 1 } = .next t :=
  ⟨smallest_inv, Laws.step_next _⟩

theorem witness_OnlyTheNamedCommandsWrite :
    exec (.romrd 0 0) State.reset = .next (after (.romrd 0 0) State.reset) ∧
      Instr.opcode (.romrd 0 0) = 0x32 := ⟨exec_after _ _, rfl⟩

theorem witness_CerrRecordsMalformedCommands :
    (∃ t : State, step State.reset = .next t) ∧
      ∃ t : State, step (issued 0x0400000000000000) = .next t :=
  ⟨Laws.step_next _, Laws.step_next _⟩

theorem witness_ContextsDoNotInterfere :
    [0, 1, 0].Perm [1, 0, 0] ∧ 0 < Config.nctx :=
  ⟨by decide, by simp [Config.nctx]⟩

theorem witness_CodewordsAreClosedUnderXor :
    ((holding badCk).graph = (holding cwRef).graph ∧
      (holding (cwRef ^^^ badCk)).graph = (holding cwRef).graph ∧
      (holding (cwRef ^^^ badCk)).cw = (holding cwRef).cw ^^^ (holding badCk).cw ∧
      (holding cwRef).synd.sok = true ∧ (holding badCk).synd.sok = true) ∧
    (holding 0).cw = 0 ∧ IsCodeword Config.graphFT8 cwRef ∧ IsCodeword Config.graphFT8 badCk :=
  ⟨⟨rfl, rfl, rfl, by decide +kernel, by decide +kernel⟩, rfl, cwRef_isCodeword, badCk_isCodeword⟩

theorem witness_PushesFillTheBufferInOrder :
    let ds := List.replicate 300 (7 : DField)
    let s := { State.reset with commands := (Pseudo.llrv ds).expand.map encode }
    s.gfail = false ∧ s.llrCnt = 0 ∧ s.commands = (Pseudo.llrv ds).expand.map encode :=
  ⟨rfl, rfl, rfl⟩

end Sys2Proof.Tests
end

/-! ## What a command does

Every answer of `exec` is one of twelve effects. Each statement about all commands is a case split
on `Effect`, not on the twenty commands and their checks. -/

section

namespace Sys2Proof.Machine

/-- The context after DEC refused its vector, before the response is given (rules R104, R176). -/
def State.inputRefused (s : State) : State :=
  { s.clearAttempt with res := .inputInvalid, iil := s.wrongLength, iin := s.hasNonfinite }

theorem refuse_input (s : State) :
    s.refuse (.input s.wrongLength s.hasNonfinite) =
      s.inputRefused.respond .errInput s.inputRefused.status := rfl

/-- The opcodes of the commands that write more than the response and CERR; the others only read. -/
def writingOpcodes : List (BitVec 8) := [0x01, 0x02, 0x03, 0x10, 0x11, 0x12, 0x13, 0x14]

/-- What a command with opcode `op` can make of `s`: refused by the common checks (rule R172), or a
read-out, or the writes of the command's own rule. -/
inductive Effect (s : State) : (op : BitVec 8) → State → Prop
  | graphRefused (op : BitVec 8) (bad : s.gfail = true) : Effect s op s.graphRefused
  | operandRefused (op : BitVec 8) : Effect s op s.operandRefused
  | readOut (op : BitVec 8) (v : BitVec 32) (reads : op ∉ writingOpcodes) :
      Effect s op (s.answered v)
  | clr : Effect s 0x01
      ({ s.clearAttempt with
          llrBuf := Vector.replicate 174 0, llrCnt := 0
          res := .none, iil := false, iin := false }.answered 0)
  | gchk (v : BitVec 32) : Effect s 0x02 ({ s with gfail := !s.graph.wf }.answered v)
  | setit (n : BitVec 8) (pos : 1 ≤ n.toNat) : Effect s 0x03 ({ s with maxIter := n }.answered 0)
  | llrp (d : DField) (v : BitVec 32) : Effect s 0x10 ((s.pushLlr d).answered v)
  | decRefused (bad : s.wrongLength = true ∨ s.hasNonfinite = true) :
      Effect s 0x11 (s.inputRefused.respond .errInput s.inputRefused.status)
  | decRan (good : (s.wrongLength || s.hasNonfinite) = false) :
      Effect s 0x11 (s.runAttempt.answered s.runAttempt.status)
  | cww (cw : Codeword) : Effect s 0x12 ({ s.dropResults with cw := cw }.answered 0)
  | syn (v : BitVec 32) : Effect s 0x13 (s.synd.answered v)
  | pay (v : BitVec 32) : Effect s 0x14 (s.payv.answered v)

/-- The common checks only add the two refusals to what a command's own rule does. -/
theorem effect_command {s : State} {op : BitVec 8} {exempt unusedZero legal : Bool}
    {run : State → State} (h : legal = true → Effect s op (run s)) :
    Effect s op (s.command exempt unusedZero legal run) := by
  obtain ⟨hg, -, heq⟩ | ⟨-, -, heq⟩ | ⟨-, -, hlegal, heq⟩ :=
    command_cases s exempt unusedZero legal run
  · exact heq ▸ .graphRefused op hg
  · exact heq ▸ .operandRefused op
  · exact heq ▸ h hlegal

/-- A legal SETIT operand is a positive budget (rule R103). -/
theorem budgetLegal_pos {d : DField} (h : budgetLegal d = true) :
    1 ≤ (d.extractLsb' 0 8).toNat := by
  simp only [budgetLegal, Bool.and_eq_true, bne_iff_ne] at h
  exact Nat.one_le_iff_ne_zero.2 fun hz => h.2 (BitVec.eq_of_toNat_eq hz)

/-- DEC past the common checks refuses its vector or runs (rule R104). -/
theorem effect_dec (s : State) :
    Effect s 0x11
      (if s.wrongLength || s.hasNonfinite then s.refuse (.input s.wrongLength s.hasNonfinite)
        else s.runAttempt.respond .ok s.runAttempt.status) := by
  split
  next bad => exact .decRefused (Bool.or_eq_true_iff.1 bad)
  next good => exact .decRan (Bool.eq_false_iff.2 good)

theorem exec_effect (i : Instr) (s : State) : ∃ t, exec i s = .next t ∧ Effect s i.opcode t := by
  cases i with
  | clr => exact ⟨_, rfl, effect_command fun _ => .clr⟩
  | gchk => exact ⟨_, rfl, effect_command fun _ => .gchk _⟩
  | setit => exact ⟨_, rfl, effect_command fun legal => .setit _ (budgetLegal_pos legal)⟩
  | llrp => exact ⟨_, rfl, effect_command fun _ => .llrp _ _⟩
  | dec => exact ⟨_, rfl, effect_command fun _ => effect_dec s⟩
  | cww => exact ⟨_, rfl, effect_command fun _ => .cww _⟩
  | syn => exact ⟨_, rfl, effect_command fun _ => .syn _⟩
  | pay => exact ⟨_, rfl, effect_command fun _ => .pay _⟩
  | _ =>
    exact ⟨_, rfl, effect_command fun _ =>
      .readOut _ _ (by simp [Instr.opcode, writingOpcodes])⟩

theorem effect_of_exec {i : Instr} {s t : State} (h : exec i s = .next t) :
    Effect s i.opcode t := by
  obtain ⟨u, hu, effect⟩ := exec_effect i s
  obtain rfl : u = t := Host.Outcome.next.inj (hu.symm.trans h)
  exact effect

/-! ### Response words -/

theorem responseWord_toNat (rc : ResponseCode) (data : BitVec 32) :
    (responseWord rc data).toNat = rc.code.toNat * 2 ^ 32 + data.toNat := toNat_append _ _

theorem ResponseCode.code_toNat_inj {rc rc' : ResponseCode}
    (h : rc.code.toNat = rc'.code.toNat) : rc = rc' := by
  revert h
  cases rc <;> cases rc' <;> decide

/-- A response word shows its two fields (rule R72). -/
@[simp] theorem responseWord_inj {rc rc' : ResponseCode} {x y : BitVec 32} :
    responseWord rc x = responseWord rc' y ↔ rc = rc' ∧ x = y := by
  refine ⟨fun h => ?_, fun ⟨hrc, hdata⟩ => by rw [hrc, hdata]⟩
  have hnat := congrArg BitVec.toNat h
  simp only [responseWord_toNat] at hnat
  exact ⟨ResponseCode.code_toNat_inj (by omega), BitVec.eq_of_toNat_eq (by omega)⟩

/-! ### Steps -/

theorem step_idle {s : State} (h : s.commands = []) : step s = .next s := by
  simp [step, State.nextCommand, h]

theorem step_decoded {s : State} {w : CommandWord} {rest : List CommandWord} {i : Instr}
    (hc : s.commands = w :: rest) (hd : decode w = .ok i) :
    step s = exec i { s with commands := rest } := by
  simp [step, State.nextCommand, hc, hd]

theorem step_unassigned {s : State} {w : CommandWord} {rest : List CommandWord} {e : DecodeError}
    (hc : s.commands = w :: rest) (hd : decode w = .error e) :
    step s = .next ({ s with commands := rest } : State).refuseUnassigned := by
  simp [step, State.nextCommand, hc, hd]

theorem refuseUnassigned_cases (s : State) :
    s.refuseUnassigned = s.graphRefused ∨
      s.refuseUnassigned =
        { s with cerr := true, response := some (responseWord .errOpcode 0) } := by
  unfold State.refuseUnassigned
  split
  · exact .inl (refuse_graph s)
  · exact .inr (refuse_opcode s)

/-- A step waits, or takes a word off the port and refuses it for its opcode or runs the command. -/
theorem step_cases {s t : State} (h : step s = .next t) :
    (s.commands = [] ∧ t = s) ∨
    ∃ w rest, s.commands = w :: rest ∧
      (t = ({ s with commands := rest } : State).graphRefused ∨
        t = { s with
          commands := rest, cerr := true, response := some (responseWord .errOpcode 0) } ∨
        ∃ op, Effect { s with commands := rest } op t) := by
  cases hc : s.commands with
  | nil => exact .inl ⟨rfl, Host.Outcome.next.inj (h.symm.trans (step_idle hc))⟩
  | cons w rest =>
    refine .inr ⟨w, rest, rfl, ?_⟩
    cases hd : decode w with
    | ok i => exact .inr (.inr ⟨_, effect_of_exec ((step_decoded hc hd).symm.trans h)⟩)
    | error e =>
      obtain rfl := Host.Outcome.next.inj ((step_unassigned hc hd).symm.trans h)
      obtain heq | heq := refuseUnassigned_cases { s with commands := rest }
      · exact .inl heq
      · exact .inr (.inl heq)

end Sys2Proof.Machine

end

/-! ## One attempt of DEC

`runAttempt` is a fresh context, passes up to the first that meets an exit, and the writing of the
result (rules R104, R111, R113). -/

section

namespace Sys2Proof.Machine

/-- The context in which the passes of an attempt begin (rule R104 step 2). -/
def State.attemptStart (s : State) : State := { s with iil := false, iin := false }.initContext

/-- The context after `k` passes of an attempt. -/
def State.pass (s : State) (k : Nat) : State := State.iteration^[k] s.attemptStart

/-- What an attempt leaves after the pass that ended it: RES, and PAYV for Converged only (rule
R104). -/
def State.attemptResult (s : State) : State :=
  if s.sok then (s.withResult .converged).payv else s.withResult .maxIterationsExceeded

/-- Pass `k` is the first that meets an exit of the loop (rule R113). -/
def State.EndsAt (s : State) (k : Nat) : Prop :=
  1 ≤ k ∧ (∀ j, 1 ≤ j → j < k → ¬(s.pass j).LoopExit) ∧ (s.pass k).LoopExit

theorem State.pass_succ (s : State) (k : Nat) : s.pass (k + 1) = (s.pass k).iteration :=
  Function.iterate_succ_apply' _ _ _

theorem loopResult_payv_if_converged (x : State) :
    (if x.loopResult.res = .converged then x.loopResult.payv else x.loopResult) =
      x.attemptResult := by
  unfold State.loopResult State.attemptResult
  cases x.sok <;> simp

theorem runAttempt_eq (s : State) :
    ∃ k, k ≤ loopFuel ∧ s.EndsAt k ∧ s.runAttempt = (s.pass k).attemptResult := by
  obtain ⟨k, one_le, le_fuel, first, exit, heq⟩ := decodeLoop_exits s.attemptStart (by
    simp [State.attemptStart])
  refine ⟨k, le_fuel, ⟨one_le, first, exit⟩, ?_⟩
  have hloop : s.runLoop = (s.pass k).loopResult := heq
  rw [State.runAttempt, hloop, loopResult_payv_if_converged]

theorem State.EndsAt.unique {s : State} {j k : Nat} (hj : s.EndsAt j) (hk : s.EndsAt k) :
    j = k := by
  obtain ⟨one_le_j, first_j, exit_j⟩ := hj
  obtain ⟨one_le_k, first_k, exit_k⟩ := hk
  obtain hlt | heq | hlt := lt_trichotomy j k
  · exact absurd exit_j (first_k j one_le_j hlt)
  · exact heq
  · exact absurd exit_k (first_j k one_le_k hlt)

/-! ### What an attempt leaves alone -/

section keeps

variable {α : Type} (f : State → α)

theorem pass_keeps (h : ∀ s : State, f s.iteration = f s) (s : State) (k : Nat) :
    f (s.pass k) = f s.attemptStart := iterate_keeps f h k _

theorem attemptResult_keeps (hr : ∀ (s : State) (x : DecodeResult), f (s.withResult x) = f s)
    (hp : ∀ s : State, f s.payv = f s) (s : State) : f s.attemptResult = f s := by
  unfold State.attemptResult
  split
  · rw [hp, hr]
  · rw [hr]

theorem runAttempt_keeps (hi : ∀ s : State, f s.iteration = f s)
    (hr : ∀ (s : State) (x : DecodeResult), f (s.withResult x) = f s)
    (hp : ∀ s : State, f s.payv = f s) (s : State) : f s.runAttempt = f s.attemptStart := by
  obtain ⟨k, -, -, heq⟩ := runAttempt_eq s
  rw [heq, attemptResult_keeps f hr hp, pass_keeps f hi]

end keeps

section runAttempt

variable (s : State)

@[simp] theorem State.runAttempt_graph : s.runAttempt.graph = s.graph :=
  runAttempt_keeps State.graph (by simp) (by simp) (by simp) s
@[simp] theorem State.runAttempt_checksumUnit : s.runAttempt.checksumUnit = s.checksumUnit :=
  runAttempt_keeps State.checksumUnit (by simp) (by simp) (by simp) s
@[simp] theorem State.runAttempt_phase : s.runAttempt.phase = s.phase :=
  runAttempt_keeps State.phase (by simp) (by simp) (by simp) s
@[simp] theorem State.runAttempt_llrBuf : s.runAttempt.llrBuf = s.llrBuf :=
  runAttempt_keeps State.llrBuf (by simp) (by simp) (by simp) s
@[simp] theorem State.runAttempt_llrCnt : s.runAttempt.llrCnt = s.llrCnt :=
  runAttempt_keeps State.llrCnt (by simp) (by simp) (by simp) s
@[simp] theorem State.runAttempt_maxIter : s.runAttempt.maxIter = s.maxIter :=
  runAttempt_keeps State.maxIter (by simp) (by simp) (by simp) s
@[simp] theorem State.runAttempt_gfail : s.runAttempt.gfail = s.gfail :=
  runAttempt_keeps State.gfail (by simp) (by simp) (by simp) s
@[simp] theorem State.runAttempt_cerr : s.runAttempt.cerr = s.cerr :=
  runAttempt_keeps State.cerr (by simp) (by simp) (by simp) s
@[simp] theorem State.runAttempt_commands : s.runAttempt.commands = s.commands :=
  runAttempt_keeps State.commands (by simp) (by simp) (by simp) s

end runAttempt

/-! ### When an attempt ends -/

theorem pass_iter (s : State) (k : Nat) : (s.pass k).iter = BitVec.ofNat 8 k := by
  rw [State.pass, iterate_iter]
  simp [State.attemptStart]

theorem pass_maxIter (s : State) (k : Nat) : (s.pass k).maxIter = s.maxIter :=
  pass_keeps State.maxIter (by simp) s k

theorem pass_pv (s : State) (k : Nat) : (s.pass k).pv = .notRun :=
  (pass_keeps State.pv (by simp) s k).trans (by simp [State.attemptStart])

/-- With a budget of at least 1 an attempt ends within it (rule R113). -/
theorem State.EndsAt.le_budget {s : State} {k : Nat} (hk : s.EndsAt k)
    (budget : 1 ≤ s.maxIter.toNat) : k ≤ s.maxIter.toNat := by
  obtain ⟨-, first, -⟩ := hk
  by_contra hlt
  refine first s.maxIter.toNat budget (by omega) (.inr ?_)
  rw [pass_iter, pass_maxIter, BitVec.ofNat_toNat, BitVec.setWidth_eq]

/-- Within the budget ITER counts the passes without wrapping (rules R21, R104). -/
theorem State.EndsAt.iter_toNat {s : State} {k : Nat} (hk : s.EndsAt k)
    (budget : 1 ≤ s.maxIter.toNat) : (s.pass k).iter.toNat = k := by
  have hle := hk.le_budget budget
  have hlt := s.maxIter.isLt
  rw [pass_iter, BitVec.toNat_ofNat, Nat.mod_eq_of_lt (by omega)]

/-- The pass that ended an attempt was a pass, so SYND has run on its codeword. -/
theorem State.EndsAt.eq_iteration {s : State} {k : Nat} (hk : s.EndsAt k) :
    s.pass k = (s.pass (k - 1)).iteration := by
  obtain ⟨one_le, -, -⟩ := hk
  rw [← State.pass_succ, Nat.sub_add_cancel one_le]

theorem iteration_sok_iff (x : State) :
    x.iteration.sok = true ↔ IsCodeword x.iteration.graph x.iteration.cw := by
  rw [← syndromeOf_eq_zero]
  simp [State.iteration]

/-! ### PAYV (rule R141) -/

theorem payv_of_match {s : State}
    (h : checksumBy s.checksumUnit (payloadOf s.cw) = checksumOf s.cw) :
    s.payv = { s with pv := .valid, pld := payloadOf s.cw } := if_pos h

theorem payv_of_mismatch {s : State}
    (h : checksumBy s.checksumUnit (payloadOf s.cw) ≠ checksumOf s.cw) :
    s.payv = { s with pv := .checksumMismatch, pld := 0 } := if_neg h

/-- PAYV leaves the codeword's payload with its checksum, or the mismatch with no payload. -/
theorem payv_cases (s : State) :
    (s.payv.pv = .valid ∧ s.payv.pld = payloadOf s.cw ∧
      checksumBy s.checksumUnit s.payv.pld = checksumOf s.cw) ∨
    (s.payv.pv = .checksumMismatch ∧ s.payv.pld = 0) := by
  by_cases h : checksumBy s.checksumUnit (payloadOf s.cw) = checksumOf s.cw
  · rw [payv_of_match h]
    exact .inl ⟨rfl, rfl, h⟩
  · rw [payv_of_mismatch h]
    exact .inr ⟨rfl, rfl⟩

theorem payv_pv (s : State) : s.payv.pv = .valid ∨ s.payv.pv = .checksumMismatch :=
  (payv_cases s).imp And.left And.left

theorem payv_pv_ne_notRun (s : State) : s.payv.pv ≠ .notRun := by
  obtain h | h := payv_pv s <;> simp [h]

theorem payv_valid {s : State} (h : s.payv.pv = .valid) :
    s.payv.pld = payloadOf s.cw ∧
      checksumBy s.checksumUnit s.payv.pld = checksumOf s.cw := by
  obtain ⟨-, hpld⟩ | ⟨hpv, -⟩ := payv_cases s
  · exact hpld
  · simp [hpv] at h

theorem payv_no_payload {s : State} (h : s.payv.pv ≠ .valid) : s.payv.pld = 0 := by
  obtain ⟨hpv, -⟩ | ⟨-, hpld⟩ := payv_cases s
  · exact absurd hpv h
  · exact hpld

/-- PAYV neither reads nor writes RES. -/
theorem withResult_payv (x : State) (res : DecodeResult) :
    (x.withResult res).payv = x.payv.withResult res := by
  by_cases h : checksumBy x.checksumUnit (payloadOf x.cw) = checksumOf x.cw
  · rw [payv_of_match h, payv_of_match (s := x.withResult res) h]
    rfl
  · rw [payv_of_mismatch h, payv_of_mismatch (s := x.withResult res) h]
    rfl

/-! ### The two results of an attempt (rule R104 steps 3 and 4) -/

/-- An attempt leaves the last pass as Converged and validated, or as MaxIterationsExceeded. -/
theorem attemptResult_cases (x : State) :
    (x.sok = true ∧ x.attemptResult = (x.withResult .converged).payv) ∨
    (x.sok = false ∧ x.attemptResult = x.withResult .maxIterationsExceeded) := by
  unfold State.attemptResult
  cases x.sok <;> simp

theorem State.EndsAt.iter_eq_maxIter {s : State} {k : Nat} (hk : s.EndsAt k)
    (hsok : (s.pass k).sok = false) : (s.pass k).iter = (s.pass k).maxIter := by
  obtain ⟨-, -, exit⟩ := hk
  exact exit.resolve_left (by simp [hsok])

end Sys2Proof.Machine

end

/-! ## The invariants of rule R34, effect by effect -/

section

namespace Sys2Proof.Machine

/-! ### Elements of the zero files, and the ranges of messages (rules R17 to R20) -/

@[simp] theorem zeroBits_getElem {b : Nat} (h : b < 174) : zeroBits[b] = 0 := by simp [zeroBits]

@[simp] theorem zeroMessages_getElem {b j : Nat} (h : b < 174) (h' : j < 3) :
    zeroMessages[b][j] = 0 := by simp [zeroMessages]

theorem withinLmax_zero : WithinLmax 0 := by simp [WithinLmax]

theorem withinLmax_iff_natAbs (x : Int) : WithinLmax x ↔ x.natAbs ≤ lmax := by
  unfold WithinLmax lmax
  omega

theorem withinLmax_sat (x : Int) : WithinLmax (sat x) := by
  unfold WithinLmax sat lmax
  omega

theorem quantMagnitude_le_lmax (w : BitVec 32) : quantMagnitude w ≤ lmax := by
  simp only [quantMagnitude]
  split_ifs <;> simp

theorem withinLmax_quant (w : BitVec 32) : WithinLmax (quant w) := by
  have hle := quantMagnitude_le_lmax w
  rw [withinLmax_iff_natAbs, quant]
  split <;> omega

theorem natAbs_signProduct (qs : List Int) : (signProduct qs).natAbs = 1 := by
  induction qs with
  | nil => rfl
  | cons q qs ih =>
    have hsgn : (sgn q).natAbs = 1 := by unfold sgn; split <;> rfl
    change (sgn q * signProduct qs).natAbs = 1
    rw [Int.natAbs_mul, hsgn, ih]

theorem minMagnitude_le_lmax {qs : List Int} (h : ∀ q ∈ qs, WithinLmax q) :
    minMagnitude qs ≤ lmax := by
  unfold minMagnitude
  cases hmin : (qs.map Int.natAbs).min? with
  | none => exact Nat.zero_le _
  | some m =>
    obtain ⟨q, hq, rfl⟩ := List.mem_map.1 (List.min?_mem hmin)
    exact (withinLmax_iff_natAbs q).1 (h q hq)

/-- A check's message is no larger than the messages it received (rule R108). -/
theorem withinLmax_checkMessage {qs : List Int} (h : ∀ q ∈ qs, WithinLmax q) (k : Nat) :
    WithinLmax (checkMessage qs k) := by
  rw [withinLmax_iff_natAbs, checkMessage, Int.natAbs_mul, natAbs_signProduct, Nat.one_mul,
    Int.natAbs_natCast]
  exact minMagnitude_le_lmax fun q hq => h q (List.mem_of_mem_eraseIdx hq)

theorem withinLmax_messageAt {m : MessageFile}
    (h : ∀ b j, (hb : b < 174) → (hj : j < 3) → WithinLmax m[b][j]) (b j : Nat) :
    WithinLmax (messageAt m b j) := by
  by_cases hb : b < 174
  · by_cases hj : j < 3
    · rw [messageAt_eq_getElem m hb hj]
      exact h b j hb hj
    · simpa [messageAt, hb, hj] using withinLmax_zero
  · simpa [messageAt, hb] using withinLmax_zero

/-! ### One pass (rules R107 to R110) -/

theorem iteration_r {x : State} {b j : Nat} (hb : b < 174) (hj : j < 3) :
    x.iteration.r[b][j] = edgeMessage x.graph x.q b j := by
  simp [State.iteration, State.c2b]

theorem iteration_tot {x : State} {b : Nat} (hb : b < 174) :
    x.iteration.tot[b] =
      x.iteration.l[b] + x.iteration.r[b][0] + x.iteration.r[b][1] + x.iteration.r[b][2] := by
  simp [State.iteration, State.b2c, totalBelief, bitAt_eq_getElem, messageAt_eq_getElem]

theorem iteration_q {x : State} {b j : Nat} (hb : b < 174) (hj : j < 3) :
    ∃ v, x.iteration.q[b][j] = sat v := by
  simp [State.iteration, State.b2c]

theorem iteration_r_range {x : State}
    (q_range : ∀ b j, (h : b < 174) → (h' : j < 3) → WithinLmax x.q[b][j])
    (b j : Nat) (hb : b < 174) (hj : j < 3) : WithinLmax x.iteration.r[b][j] := by
  rw [iteration_r hb hj]
  refine withinLmax_checkMessage (fun q hq => ?_) _
  obtain ⟨b', -, rfl⟩ := List.mem_map.1 hq
  exact withinLmax_messageAt q_range _ _

/-! ### Syndromes (rule R131) -/

theorem syndromeOf_bit_iff (g : GraphRom) (cw : Codeword) {c : Nat} (hc : c < 83) :
    (syndromeOf g cw).getLsbD c = true ↔ onesInCheck g cw c % 2 = 1 := by
  rw [getLsbD_syndromeOf, parity_eq_odd]
  simp [hc]

theorem isCodeword_zero (g : GraphRom) : IsCodeword g 0 := by
  intro c _
  simp [onesInCheck]

theorem iteration_syn (x : State) :
    x.iteration.syn = syndromeOf x.iteration.graph x.iteration.cw := by
  simp [State.iteration]

theorem iteration_sok (x : State) : x.iteration.sok = (x.iteration.syn == 0) := by
  simp [State.iteration]

/-- While SYNV = 1, SYN and SOK are what SYND would write again. -/
theorem State.Inv.synd_eq_self {s : State} (h : s.Inv) (hv : s.synv = true) : s.synd = s := by
  have hsyn : syndromeOf s.graph s.cw = s.syn := by
    apply BitVec.eq_of_getLsbD_eq
    intro c hc
    rw [Bool.eq_iff_iff, syndromeOf_bit_iff _ _ hc, h.syn_is_parity hv c hc]
  have hsok : (s.syn == 0#83) = s.sok := by
    rw [Bool.eq_iff_iff, beq_iff_eq, h.sok_is_zero hv]
    rfl
  rw [State.synd, hsyn, hsok, ← hv]

/-! ### The invariants under each effect -/

namespace State.Inv

variable {s : State}

theorem withCommands (h : s.Inv) (commands : List CommandWord) :
    ({ s with commands := commands } : State).Inv := { h with }

theorem respond (h : s.Inv) (rc : ResponseCode) (data : BitVec 32) : (s.respond rc data).Inv :=
  { h with }

theorem withCerr (h : s.Inv) (cerr : Bool) : ({ s with cerr := cerr } : State).Inv := { h with }

theorem gchk (h : s.Inv) : ({ s with gfail := !s.graph.wf } : State).Inv :=
  { h with gfail_is_check := rfl }

theorem setit (h : s.Inv) {n : BitVec 8} (pos : 1 ≤ n.toNat) :
    ({ s with maxIter := n } : State).Inv := { h with budget := pos }

theorem llrp (h : s.Inv) (d : DField) : (s.pushLlr d).Inv :=
  { h with
    unpushed := by
      intro i hi hcnt
      have hle : s.llrCnt.toNat ≤ i ∧ s.llrCnt.toNat ≠ i := by
        simp only [State.pushLlr_llrCnt] at hcnt
        split at hcnt
        · exact absurd hcnt (by simp; omega)
        · bv_omega
      have hold := h.unpushed i hi hle.1
      simp only [State.pushLlr]
      split
      · rw [Vector.getElem_set_ne _ _ hle.2, hold]
      · exact hold }

/-- An attempt's results zeroed, with no result on record or with a refused input and its cause. -/
theorem cleared (h : s.Inv) {res : DecodeResult} {iil iin : Bool}
    (hres : (res = .none ∧ iil = false ∧ iin = false) ∨
      (res = .inputInvalid ∧ (iil = true ∨ iin = true))) :
    ({ s.clearAttempt with res := res, iil := iil, iin := iin } : State).Inv :=
  { h with
    sok_needs_synv := nofun
    syn_is_parity := nofun
    sok_is_zero := nofun
    syn_zero := fun _ => rfl
    converged := by rintro rfl; simp at hres
    exceeded := by rintro rfl; simp at hres
    invalid := by rintro rfl; simpa using hres
    valid := nofun
    no_payload := fun _ => rfl
    totals := fun b hb => by simp
    causes := fun hne => by
      obtain ⟨-, hiil, hiin⟩ | ⟨heq, -⟩ := hres
      · exact ⟨hiil, hiin⟩
      · exact absurd heq hne
    l_range := fun b hb => by simpa [hb] using withinLmax_zero
    q_range := fun b j hb hj => by simpa [hb, hj] using withinLmax_zero
    r_range := fun b j hb hj => by simpa [hb, hj] using withinLmax_zero
    tot_range := fun b hb => by simp }

theorem emptied (h : s.Inv) :
    ({ s with llrBuf := Vector.replicate 174 0, llrCnt := 0 } : State).Inv :=
  { h with unpushed := fun i hi _ => by simp }

theorem inputRefused (h : s.Inv) (bad : s.wrongLength = true ∨ s.hasNonfinite = true) :
    s.inputRefused.Inv := h.cleared (.inr ⟨rfl, bad⟩)

theorem cww (h : s.Inv) (cw : Codeword) : ({ s.dropResults with cw := cw } : State).Inv :=
  { h with
    sok_needs_synv := nofun
    syn_is_parity := nofun
    sok_is_zero := nofun
    syn_zero := fun _ => rfl
    converged := nofun
    exceeded := nofun
    invalid := nofun
    valid := nofun
    no_payload := fun _ => rfl
    causes := fun _ => ⟨rfl, rfl⟩ }

/-- SYND is a no-op where SYNV = 1 already, so items 4 and 5 survive it (rules R34, R132). -/
theorem synd (h : s.Inv) : s.synd.Inv := by
  cases hv : s.synv with
  | true => rwa [h.synd_eq_self hv]
  | false =>
    exact
      { h with
        sok_needs_synv := fun _ => rfl
        syn_is_parity := fun _ c hc => syndromeOf_bit_iff _ _ hc
        sok_is_zero := fun _ => beq_iff_eq
        syn_zero := nofun
        converged := fun hres => absurd (h.converged hres).1 (by simp [hv])
        exceeded := fun hres => absurd (h.exceeded hres).1 (by simp [hv])
        invalid := fun hres => by
          obtain ⟨hiter, hcause, hcw, hpld, -, hfiles⟩ := h.invalid hres
          refine ⟨hiter, hcause, hcw, hpld, ?_, hfiles⟩
          rw [State.synd_syn, hcw, syndromeOf_eq_zero]
          exact isCodeword_zero _ }

theorem payv (h : s.Inv) : s.payv.Inv where
  phase_idle := by simp [h.phase_idle]
  gfail_is_check := by simp [h.gfail_is_check]
  sok_needs_synv := by simpa using h.sok_needs_synv
  syn_is_parity := by simpa using h.syn_is_parity
  sok_is_zero := by simpa using h.sok_is_zero
  syn_zero := by simpa using h.syn_zero
  converged hres := by
    obtain ⟨hsynv, hsok, -, hiter⟩ := h.converged (by simpa using hres)
    exact ⟨by simpa, by simpa, payv_pv_ne_notRun s, by simpa⟩
  exceeded := by simpa using h.exceeded
  invalid hres := by
    obtain ⟨hiter, hcause, hcw, -, hrest⟩ := h.invalid (by simpa using hres)
    have hpld : s.payv.pld = 0 := by
      by_cases hpv : s.payv.pv = .valid
      · rw [(payv_valid hpv).1, hcw]; decide
      · exact payv_no_payload hpv
    exact ⟨by simpa, by simpa, by simpa, hpld, by simpa⟩
  valid hpv := by simpa using payv_valid hpv
  no_payload := payv_no_payload
  totals := by simpa using h.totals
  causes := by simpa using h.causes
  budget := by simpa using h.budget
  l_range := by simpa using h.l_range
  q_range := by simpa using h.q_range
  r_range := by simpa using h.r_range
  tot_range := by simpa using h.tot_range
  unpushed := by simpa using h.unpushed

/-! ### DEC: the invariants after each pass, but for RES, which only the end of the loop writes -/

theorem attemptStart (h : s.Inv) : (s.attemptStart.withResult .none).Inv :=
  { h with
    sok_needs_synv := nofun
    syn_is_parity := nofun
    sok_is_zero := nofun
    syn_zero := fun _ => rfl
    converged := nofun
    exceeded := nofun
    invalid := nofun
    valid := nofun
    no_payload := fun _ => rfl
    totals := fun b hb => by simp [State.attemptStart, State.initContext]
    causes := fun _ => ⟨rfl, rfl⟩
    l_range := fun b hb => by
      simpa [State.attemptStart, State.initContext] using withinLmax_quant _
    q_range := fun b j hb hj => by
      simpa [State.attemptStart, State.initContext] using withinLmax_quant _
    r_range := fun b j hb hj => by
      simpa [State.attemptStart, State.initContext, hb, hj] using withinLmax_zero
    tot_range := fun b hb => by
      have hq := withinLmax_quant s.llrBuf[b]
      unfold WithinLmax at hq
      simp [State.attemptStart, State.initContext]
      omega }

theorem iteration {x : State} (h : (x.withResult .none).Inv) (hpv : x.pv = .notRun) :
    (x.iteration.withResult .none).Inv where
  phase_idle := by simpa using h.phase_idle
  gfail_is_check := by simpa using h.gfail_is_check
  sok_needs_synv _ := by simp
  syn_is_parity _ c hc := by
    rw [State.withResult_syn, iteration_syn]
    exact syndromeOf_bit_iff _ _ hc
  sok_is_zero _ := by
    rw [State.withResult_sok, iteration_sok]
    exact beq_iff_eq
  syn_zero hv := by simp at hv
  converged hres := by simp at hres
  exceeded hres := by simp at hres
  invalid hres := by simp at hres
  valid hv := by simp [hpv] at hv
  no_payload := by simpa using h.no_payload
  totals b hb := by simpa using iteration_tot hb
  causes := by simpa using h.causes
  budget := by simpa using h.budget
  l_range := by simpa using h.l_range
  q_range b j hb hj := by
    obtain ⟨v, hv⟩ := iteration_q (x := x) hb hj
    exact hv ▸ withinLmax_sat v
  r_range b j hb hj := by
    simpa using iteration_r_range (x := x) h.q_range b j hb hj
  tot_range b hb := by
    have hl : WithinLmax x.iteration.l[b] := by simpa using h.l_range b hb
    have hr := fun j hj => iteration_r_range (x := x) h.q_range b j hb hj
    have h0 := hr 0 (by decide)
    have h1 := hr 1 (by decide)
    have h2 := hr 2 (by decide)
    have htot := iteration_tot (x := x) hb
    unfold WithinLmax at hl h0 h1 h2
    simp only [State.withResult_tot]
    omega
  unpushed := by simpa using h.unpushed

theorem pass (h : s.Inv) (k : Nat) : ((s.pass k).withResult .none).Inv := by
  induction k with
  | zero => exact h.attemptStart
  | succ k ih =>
    rw [State.pass_succ]
    exact ih.iteration (pass_pv s k)

theorem withConverged {x : State} (h : (x.withResult .none).Inv) (hsynv : x.synv = true)
    (hsok : x.sok = true) (hpv : x.pv ≠ .notRun) (hiter : 1 ≤ x.iter.toNat) :
    (x.withResult .converged).Inv :=
  { h with
    converged := fun _ => ⟨hsynv, hsok, hpv, hiter⟩
    exceeded := nofun
    invalid := nofun
    causes := fun _ => h.causes nofun }

theorem withExceeded {x : State} (h : (x.withResult .none).Inv) (hsynv : x.synv = true)
    (hsok : x.sok = false) (hiter : 1 ≤ x.iter.toNat) :
    (x.withResult .maxIterationsExceeded).Inv :=
  { h with
    converged := nofun
    exceeded := fun _ => ⟨hsynv, hsok, hiter⟩
    invalid := nofun
    causes := fun _ => h.causes nofun }

theorem runAttempt (h : s.Inv) : s.runAttempt.Inv := by
  obtain ⟨k, -, hk, heq⟩ := runAttempt_eq s
  have hpass : ((s.pass k).withResult .none).Inv := h.pass k
  have hsynv : (s.pass k).synv = true := by rw [hk.eq_iteration, State.iteration_synv]
  have hiter : 1 ≤ (s.pass k).iter.toNat := (hk.iter_toNat h.budget).symm ▸ hk.1
  rw [heq]
  obtain ⟨hsok, hres⟩ | ⟨hsok, hres⟩ := attemptResult_cases (s.pass k)
  · rw [hres, withResult_payv]
    have hpayv := hpass.payv
    rw [withResult_payv] at hpayv
    exact hpayv.withConverged (by simpa) (by simpa) (payv_pv_ne_notRun _) (by simpa)
  · exact hres ▸ hpass.withExceeded hsynv hsok hiter

end State.Inv

/-- No effect breaks the invariants. -/
theorem Effect.keeps_inv {s t : State} {op : BitVec 8} (effect : Effect s op t) (h : s.Inv) :
    t.Inv := by
  cases effect with
  | graphRefused => exact h.respond .errGraph 0
  | operandRefused => exact (h.withCerr true).respond .errOperand 0
  | readOut op v reads => exact h.respond .ok v
  | clr => exact ((h.cleared (.inl ⟨rfl, rfl, rfl⟩)).emptied).respond .ok 0
  | gchk v => exact h.gchk.respond .ok v
  | setit n pos => exact (h.setit pos).respond .ok 0
  | llrp d v => exact (h.llrp d).respond .ok v
  | decRefused bad => exact (h.inputRefused bad).respond .errInput _
  | decRan => exact h.runAttempt.respond .ok _
  | cww cw => exact (h.cww cw).respond .ok 0
  | syn v => exact h.synd.respond .ok v
  | pay v => exact h.payv.respond .ok v

end Sys2Proof.Machine

end

/-! ## The invariants, items 4 to 6 and CERR over a step -/

section

namespace Sys2Proof.Machine

/-- No step breaks the invariants: a refused word writes CERR at most, a command has an effect. -/
theorem State.Inv.step {s t : State} (h : s.Inv) (hstep : Machine.step s = .next t) : t.Inv := by
  obtain ⟨-, rfl⟩ | ⟨w, rest, -, hcase⟩ := step_cases hstep
  · exact h
  · have hrest := h.withCommands rest
    obtain rfl | rfl | ⟨op, effect⟩ := hcase
    · exact hrest.respond .errGraph 0
    · exact (hrest.withCerr true).respond .errOpcode 0
    · exact effect.keeps_inv hrest

/-! ### Items 4 to 6 of rule R34 -/

theorem convergedItem_answered {s : State} {v : BitVec 32} :
    (s.answered v).ConvergedItem ↔ s.ConvergedItem := Iff.rfl

theorem exceededItem_answered {s : State} {v : BitVec 32} :
    (s.answered v).ExceededItem ↔ s.ExceededItem := Iff.rfl

theorem convergedItem_of_ne {s : State} (h : s.res ≠ .converged) : s.ConvergedItem :=
  fun hres => absurd hres h

theorem exceededItem_of_ne {s : State} (h : s.res ≠ .maxIterationsExceeded) : s.ExceededItem :=
  fun hres => absurd hres h

theorem invalidItem_of_ne {s : State} (h : s.res ≠ .inputInvalid) : s.InvalidItem :=
  fun hres => absurd hres h

theorem inputRefused_invalidItem {s : State}
    (bad : s.wrongLength = true ∨ s.hasNonfinite = true) : s.inputRefused.InvalidItem :=
  fun _ => ⟨rfl, rfl, rfl, bad, rfl, rfl, rfl, rfl, rfl, rfl, rfl⟩

/-- An attempt with a budget leaves one of two results, each with its item of rule R34. -/
theorem runAttempt_items {s : State} (budget : 1 ≤ s.maxIter.toNat) :
    s.runAttempt.res ≠ .inputInvalid ∧ s.runAttempt.ConvergedItem ∧ s.runAttempt.ExceededItem := by
  obtain ⟨k, -, hk, heq⟩ := runAttempt_eq s
  have hsynv : (s.pass k).synv = true := by rw [hk.eq_iteration, State.iteration_synv]
  rw [heq]
  obtain ⟨hsok, hres⟩ | ⟨hsok, hres⟩ := attemptResult_cases (s.pass k)
  · rw [hres]
    refine ⟨by simp, fun _ => ⟨by simpa, by simpa, payv_pv _, ?_, ?_⟩,
      exceededItem_of_ne (by simp)⟩
    · simpa [hk.iter_toNat budget] using hk.1
    · simpa [hk.iter_toNat budget, pass_maxIter] using hk.le_budget budget
  · rw [hres]
    exact ⟨nofun, convergedItem_of_ne nofun,
      fun _ => ⟨hsynv, hsok, hk.iter_eq_maxIter hsok, pass_pv s k⟩⟩

/-- DEC, not refused as malformed or for the graph, has run or refused its vector. -/
theorem dec_answer_cases {s t : State} (effect : Effect s 0x11 t)
    (answer : t.response = some (responseWord .ok t.status) ∨
      t.response = some (responseWord .errInput t.status)) :
    ((s.wrongLength = true ∨ s.hasNonfinite = true) ∧
      t = s.inputRefused.respond .errInput s.inputRefused.status) ∨
    t = s.runAttempt.answered s.runAttempt.status := by
  cases effect with
  | graphRefused => simp at answer
  | operandRefused => simp at answer
  | readOut _ _ reads => exact absurd (by decide) reads
  | decRefused bad => exact .inl ⟨bad, rfl⟩
  | decRan => exact .inr rfl

/-- Items 4 to 6 whole at DEC's response (rules R34, R104). -/
theorem dec_items {s t : State} (effect : Effect s 0x11 t) (budget : 1 ≤ s.maxIter.toNat)
    (answer : t.response = some (responseWord .ok t.status) ∨
      t.response = some (responseWord .errInput t.status)) :
    t.ConvergedItem ∧ t.ExceededItem ∧ t.InvalidItem := by
  obtain ⟨bad, rfl⟩ | rfl := dec_answer_cases effect answer
  · exact ⟨convergedItem_of_ne nofun, exceededItem_of_ne nofun, inputRefused_invalidItem bad⟩
  · obtain ⟨hres, hconverged, hexceeded⟩ := runAttempt_items budget
    exact ⟨convergedItem_answered.2 hconverged, exceededItem_answered.2 hexceeded,
      invalidItem_of_ne (by simpa using hres)⟩

/-- Only SETIT can end item 4: SYN finds its SYND already done, PAY leaves a validity. -/
theorem Effect.keeps_convergedItem {s t : State} {op : BitVec 8} (effect : Effect s op t)
    (h : s.Inv) (item : s.ConvergedItem) (not_setit : op ≠ 0x03) : t.ConvergedItem := by
  cases effect with
  | setit => exact absurd rfl not_setit
  | clr | cww | decRefused => exact convergedItem_of_ne nofun
  | decRan =>
    obtain ⟨-, hconverged, -⟩ := runAttempt_items h.budget
    exact convergedItem_answered.2 hconverged
  | syn =>
    intro hres
    have hsynv := (item (by simpa using hres)).1
    rw [h.synd_eq_self hsynv] at hres ⊢
    exact item hres
  | pay =>
    intro hres
    obtain ⟨hsynv, hsok, -, hiter⟩ := item (by simpa using hres)
    exact ⟨by simpa, by simpa, payv_pv s, by simpa⟩
  | _ => exact item

/-- Only SETIT and PAY can end item 5. -/
theorem Effect.keeps_exceededItem {s t : State} {op : BitVec 8} (effect : Effect s op t)
    (h : s.Inv) (item : s.ExceededItem) (not_setit : op ≠ 0x03) (not_pay : op ≠ 0x14) :
    t.ExceededItem := by
  cases effect with
  | setit => exact absurd rfl not_setit
  | pay => exact absurd rfl not_pay
  | clr | cww | decRefused => exact exceededItem_of_ne nofun
  | decRan =>
    obtain ⟨-, -, hexceeded⟩ := runAttempt_items h.budget
    exact exceededItem_answered.2 hexceeded
  | syn =>
    intro hres
    have hsynv := (item (by simpa using hres)).1
    rw [h.synd_eq_self hsynv] at hres ⊢
    exact item hres
  | _ => exact item

/-- Only SYN and PAY can end item 6. -/
theorem Effect.keeps_invalidItem {s t : State} {op : BitVec 8} (effect : Effect s op t)
    (h : s.Inv) (item : s.InvalidItem) (not_syn : op ≠ 0x13) (not_pay : op ≠ 0x14) :
    t.InvalidItem := by
  cases effect with
  | syn => exact absurd rfl not_syn
  | pay => exact absurd rfl not_pay
  | clr | cww => exact invalidItem_of_ne nofun
  | decRefused bad => exact inputRefused_invalidItem bad
  | decRan =>
    obtain ⟨hres, -, -⟩ := runAttempt_items h.budget
    exact invalidItem_of_ne (by simpa using hres)
  | _ => exact item

@[simp] theorem payloadOf_zero : payloadOf 0 = 0 := by decide

@[simp] theorem checksumOf_zero : checksumOf 0 = 0 := by decide

/-- SYND of the zero word, SYN being zero already, writes only SYNV and SOK (rule R131). -/
theorem synd_of_zero {s : State} (hcw : s.cw = 0) (hsyn : s.syn = 0) :
    s.synd = { s with synv := true, sok := true } := by
  have hzero : syndromeOf s.graph s.cw = 0 := by
    rw [hcw, syndromeOf_eq_zero]
    exact isCodeword_zero _
  rw [State.synd, hzero, ← hsyn]
  simp [hsyn]

/-- PAYV of the zero word, PLD being zero already, writes only PV (rule R141). -/
theorem payv_of_zero {s : State} (hcw : s.cw = 0) (hpld : s.pld = 0) :
    s.payv = if checksumBy s.checksumUnit 0 = 0 then { s with pv := .valid }
      else { s with pv := .checksumMismatch } := by
  rw [State.payv, hcw, payloadOf_zero, checksumOf_zero, ← hpld]

theorem exec_syn {s : State} (hg : s.gfail = false) :
    exec (.syn 0 0) s = .next (s.synd.answered (BitVec.ofNat 32 (popcount s.synd.syn))) :=
  congrArg Host.Outcome.next (command_run (.inl hg) rfl rfl)

theorem exec_pay {s : State} (hg : s.gfail = false) :
    exec (.pay 0 0) s = .next (s.payv.answered ((pvCode s.payv.pv).setWidth 32)) :=
  congrArg Host.Outcome.next (command_run (.inl hg) rfl rfl)

/-- SYN after an invalid input finds the zero word, which violates no check (rules R132, R180). -/
theorem exec_syn_of_invalid {s : State} (h : s.Inv) (hg : s.gfail = false)
    (hres : s.res = .inputInvalid) :
    exec (.syn 0 0) s = .next ({ s with synv := true, sok := true }.answered 0) := by
  obtain ⟨-, -, hcw, -, hsyn, -⟩ := h.invalid hres
  have hcount : popcount s.syn = 0 := by rw [hsyn]; decide
  rw [exec_syn hg, synd_of_zero hcw hsyn, hcount]
  rfl

/-- PAY after an invalid input validates the zero payload (rules R142, R180). -/
theorem exec_pay_of_invalid {s : State} (h : s.Inv) (hg : s.gfail = false)
    (hres : s.res = .inputInvalid) :
    exec (.pay 0 0) s = .next
      (if checksumBy s.checksumUnit 0 = 0 then { s with pv := .valid }.answered 1
        else { s with pv := .checksumMismatch }.answered 2) := by
  obtain ⟨-, -, hcw, hpld, -⟩ := h.invalid hres
  rw [exec_pay hg, payv_of_zero hcw hpld]
  split <;> rfl

/-! ### CERR (rule R28) -/

/-- Of all effects only the operand refusal writes CERR, and only it answers ERR_OPERAND. -/
theorem Effect.cerr_iff {s t : State} {op : BitVec 8} (effect : Effect s op t) :
    t.cerr = true ↔ s.cerr = true ∨
      (t.response = some (responseWord .errOpcode 0) ∨
        t.response = some (responseWord .errOperand 0)) := by
  cases effect <;> simp [State.inputRefused]

theorem step_cerr_iff {s t : State} (h : step s = .next t) :
    t.cerr = true ↔ s.cerr = true ∨ (s.commands ≠ [] ∧
      (t.response = some (responseWord .errOpcode 0) ∨
        t.response = some (responseWord .errOperand 0))) := by
  obtain ⟨hidle, rfl⟩ | ⟨w, rest, hcommands, hcase⟩ := step_cases h
  · simp [hidle]
  · obtain rfl | rfl | ⟨op, effect⟩ := hcase
    · simp
    · simp [hcommands]
    · simpa [hcommands] using effect.cerr_iff

end Sys2Proof.Machine
end

/-! ## DEC: what it reads, and its order phase by phase -/

section

namespace Sys2Proof.Machine

/-! ### DEC's precondition -/

theorem nonfinite_iff (w : BitVec 32) : nonfinite w = true ↔ w.toNat / 2 ^ 23 % 256 = 255 := by
  simp [nonfinite, floatExponent, BitVec.extractLsb'_toNat, Nat.shiftRight_eq_div_pow]

/-- A word with exponent field 255 among those pushed is what IIN reports (rule R104). -/
theorem hasNonfinite_eq_false_of_finiteInput {s : State} (h : s.FiniteInput) :
    s.hasNonfinite = false := by
  rw [State.hasNonfinite, List.any_eq_false]
  intro w hw
  obtain ⟨i, hi, rfl⟩ := List.mem_iff_getElem.1 hw
  simp only [List.length_take, Vector.length_toList] at hi
  simpa [nonfinite_iff] using h i (by omega) (by omega)

/-- The context DEC leaves, the response aside, once past the common checks (rule R104). -/
def State.decResult (s : State) : State :=
  if s.wrongLength || s.hasNonfinite then s.inputRefused else s.runAttempt

/-- The response code DEC gives once past the common checks. -/
def State.decCode (s : State) : ResponseCode :=
  if s.wrongLength || s.hasNonfinite then .errInput else .ok

theorem exec_dec {s : State} (hg : s.gfail = false) :
    exec (.dec 0 0) s = .next (s.decResult.respond s.decCode s.decResult.status) := by
  have hrun : exec (.dec 0 0) s = .next
      (if s.wrongLength || s.hasNonfinite then s.refuse (.input s.wrongLength s.hasNonfinite)
        else s.runAttempt.respond .ok s.runAttempt.status) :=
    congrArg Host.Outcome.next (command_run (.inl hg) rfl rfl)
  rw [hrun, State.decResult, State.decCode]
  split
  · rw [refuse_input]
  · rfl

theorem exec_dec_ran {s : State} (hg : s.gfail = false) (hlen : s.llrCnt.toNat = 174)
    (hfin : s.FiniteInput) :
    exec (.dec 0 0) s = .next (s.runAttempt.answered s.runAttempt.status) := by
  have hcount : s.llrCnt = 174#8 := BitVec.eq_of_toNat_eq hlen
  have hok : (s.wrongLength || s.hasNonfinite) = false := by
    simp [State.wrongLength, hcount, hasNonfinite_eq_false_of_finiteInput hfin]
  simp only [exec_dec hg, State.decResult, State.decCode, hok, Bool.false_eq_true, if_false,
    respond_ok]

/-! ### A converged attempt (rules R34, R115) -/

/-- An attempt that ends as Converged ends with a codeword, validated by PAYV. -/
theorem runAttempt_converged {s : State} (h : s.runAttempt.res = .converged) :
    ∃ x : State, x.synv = true ∧ x.sok = true ∧ IsCodeword x.graph x.cw ∧
      s.runAttempt = x.payv := by
  obtain ⟨k, -, hk, heq⟩ := runAttempt_eq s
  have hpass := hk.eq_iteration
  obtain ⟨hsok, hres⟩ | ⟨-, hres⟩ := attemptResult_cases (s.pass k)
  · refine ⟨(s.pass k).withResult .converged, ?_, hsok, ?_, heq.trans hres⟩
    · simp [hpass]
    · rw [hpass] at hsok
      rw [State.withResult_graph, State.withResult_cw, hpass]
      exact (iteration_sok_iff _).1 hsok
  · rw [heq, hres] at h
    simp at h

theorem dec_converged {s t : State} (effect : Effect s 0x11 t)
    (answer : t.response = some (responseWord .ok t.status)) (hres : t.res = .converged) :
    IsCodeword t.graph t.cw ∧ t.pv ≠ .notRun ∧
      (t.pv = .valid → t.Received ∧ t.pld = payloadOf t.cw ∧
        checksumBy t.checksumUnit t.pld = checksumOf t.cw) := by
  obtain ⟨-, rfl⟩ | rfl := dec_answer_cases effect (.inl answer)
  · simp at answer
  · obtain ⟨x, hsynv, hsok, hcw, heq⟩ := runAttempt_converged (by simpa using hres)
    simp only [State.answered_graph, State.answered_cw, State.answered_pv, State.answered_pld,
      State.answered_checksumUnit, State.Received, State.answered_synv, State.answered_sok, heq,
      State.payv_graph, State.payv_cw, State.payv_synv, State.payv_sok, State.payv_checksumUnit]
    exact ⟨hcw, payv_pv_ne_notRun x, fun hpv => ⟨⟨hpv, hsynv, hsok⟩, payv_valid hpv⟩⟩

/-! ### What DEC reads (rule R114)

`x.graft o` is `x` with every element of `o` that DEC neither reads nor writes before its end, so
two contexts with equal inputs are grafts of each other once INIT has run. -/

/-- `x` with PHASE, RES, GFAIL, CERR and the ports of `o`. -/
def State.graft (x o : State) : State :=
  { x with
    phase := o.phase, res := o.res, gfail := o.gfail, cerr := o.cerr
    commands := o.commands, response := o.response }

theorem graft_c2b (x o : State) : (x.graft o).c2b = x.c2b.graft o := by
  unfold State.c2b State.graft
  rfl

theorem graft_b2c (x o : State) : (x.graft o).b2c = x.b2c.graft o := by
  unfold State.b2c State.graft
  rfl

theorem graft_hard (x o : State) : (x.graft o).hard = x.hard.graft o := by
  unfold State.hard State.graft
  congr

theorem graft_synd (x o : State) : (x.graft o).synd = x.synd.graft o := by
  unfold State.synd State.graft
  rfl

theorem graft_iteration (x o : State) : (x.graft o).iteration = x.iteration.graft o := by
  have hiter : { x.graft o with iter := (x.graft o).iter + 1#8 } =
      ({ x with iter := x.iter + 1#8 } : State).graft o := rfl
  rw [State.iteration, hiter, graft_c2b, graft_b2c, graft_hard, graft_synd, ← State.iteration]

theorem graft_payv (x o : State) : (x.graft o).payv = x.payv.graft o := by
  by_cases h : checksumBy x.checksumUnit (payloadOf x.cw) = checksumOf x.cw
  · rw [payv_of_match h, payv_of_match (s := x.graft o) h]
    rfl
  · rw [payv_of_mismatch h, payv_of_mismatch (s := x.graft o) h]
    rfl

/-- The elements DEC reads are equal (rule R114). -/
structure State.SameInput (s u : State) : Prop where
  llrBuf : s.llrBuf = u.llrBuf
  llrCnt : s.llrCnt = u.llrCnt
  maxIter : s.maxIter = u.maxIter
  graph : s.graph = u.graph
  checksumUnit : s.checksumUnit = u.checksumUnit

namespace State.SameInput

variable {s u : State}

theorem attemptStart (h : s.SameInput u) : u.attemptStart = s.attemptStart.graft u := by
  simp only [State.attemptStart, State.initContext, State.graft, h.llrBuf, h.llrCnt, h.maxIter,
    h.graph, h.checksumUnit]

theorem pass (h : s.SameInput u) (k : Nat) : u.pass k = (s.pass k).graft u := by
  induction k with
  | zero => exact h.attemptStart
  | succ k ih => rw [State.pass_succ, State.pass_succ, ih, graft_iteration]

theorem endsAt (h : s.SameInput u) {k : Nat} (hk : s.EndsAt k) : u.EndsAt k := by
  obtain ⟨one_le, first, exit⟩ := hk
  refine ⟨one_le, fun j hj hjk => ?_, ?_⟩
  · rw [h.pass j]
    exact first j hj hjk
  · rw [h.pass k]
    exact exit

theorem runAttempt (h : s.SameInput u) :
    u.runAttempt = s.runAttempt.graft (u.withResult s.runAttempt.res) := by
  obtain ⟨k, -, hk, heq⟩ := runAttempt_eq s
  obtain ⟨k', -, hk', heq'⟩ := runAttempt_eq u
  obtain rfl : k = k' := (h.endsAt hk).unique hk'
  rw [heq, heq', h.pass k]
  obtain ⟨hsok, hres⟩ | ⟨hsok, hres⟩ := attemptResult_cases (s.pass k)
  · rw [hres, State.attemptResult, if_pos (show ((s.pass k).graft u).sok = true from hsok),
      State.payv_res, ← graft_payv]
    rfl
  · rw [hres, State.attemptResult,
      if_neg (show ¬((s.pass k).graft u).sok = true by rw [Bool.not_eq_true]; exact hsok)]
    rfl

theorem wrongLength (h : s.SameInput u) : u.wrongLength = s.wrongLength := by
  rw [State.wrongLength, State.wrongLength, h.llrCnt]

theorem hasNonfinite (h : s.SameInput u) : u.hasNonfinite = s.hasNonfinite := by
  rw [State.hasNonfinite, State.hasNonfinite, h.llrCnt, h.llrBuf]

theorem inputRefused (h : s.SameInput u) :
    u.inputRefused = s.inputRefused.graft (u.withResult .inputInvalid) := by
  simp only [State.inputRefused, State.clearAttempt, State.graft, State.withResult,
    h.wrongLength, h.hasNonfinite, h.llrBuf, h.llrCnt, h.maxIter, h.graph, h.checksumUnit]

theorem decCode (h : s.SameInput u) : u.decCode = s.decCode := by
  rw [State.decCode, State.decCode, h.wrongLength, h.hasNonfinite]

theorem decResult (h : s.SameInput u) :
    u.decResult = s.decResult.graft (u.withResult s.decResult.res) := by
  rw [State.decResult, State.decResult, h.wrongLength, h.hasNonfinite]
  split
  · exact h.inputRefused
  · exact h.runAttempt

end State.SameInput

theorem decResult_cerr (s : State) : s.decResult.cerr = s.cerr := by
  unfold State.decResult
  split
  · rfl
  · exact State.runAttempt_cerr s

theorem decResult_gfail (s : State) : s.decResult.gfail = s.gfail := by
  unfold State.decResult
  split
  · rfl
  · exact State.runAttempt_gfail s

/-! ### STATUS (rule R29) -/

theorem status_bit_cerr (s : State) : s.status.getLsbD 9 = s.cerr := by
  simp only [State.status, BitVec.getLsbD_append]
  simp

/-- CERR shows in bit 9 of STATUS and in no other. -/
theorem status_bit_graft {x o : State} (hres : o.res = x.res) (hgfail : o.gfail = x.gfail) {i : Nat}
    (hi : i ≠ 9) : (x.graft o).status.getLsbD i = x.status.getLsbD i := by
  simp only [State.status, State.graft, hres, hgfail, BitVec.getLsbD_append,
    BitVec.getLsbD_ofBool]
  grind

theorem responseWord_bit_low (rc : ResponseCode) (data : BitVec 32) {i : Nat} (hi : i < 32) :
    (responseWord rc data).getLsbD i = data.getLsbD i := by
  rw [responseWord, BitVec.getLsbD_append, if_pos hi]

/-! ### The sequencer (rules R31, R105) -/

theorem ticks_add (m n : Nat) (s : State) :
    State.ticks (m + n) s = State.ticks n (State.ticks m s) := by
  induction m generalizing s with
  | zero => rw [Nat.zero_add]; rfl
  | succ m ih => rw [Nat.succ_add]; exact ih s.tick

/-- `s` at a phase of the sequencer. -/
def State.atPhase (s : State) (p : Phase) : State := { s with phase := p }

/-- In IDLE, giving a response and taking it back leaves the context as it was. -/
theorem atPhase_idle_eq {s : State} {response : Option ResponseWord} {v : BitVec 32}
    (hphase : s.phase = .idle) (hresponse : s.response = response) :
    s.atPhase .idle = { s.answered v with response := response } := by
  rw [State.atPhase, ← hphase, ← hresponse]
  rfl

theorem ticks_idle (n : Nat) (s : State) :
    State.ticks n (s.atPhase .idle) = s.atPhase .idle := by
  induction n with
  | zero => rfl
  | succ n ih => exact ih

theorem tick_init (s : State) : (s.atPhase .init).tick = s.initContext.atPhase .c2b := by
  unfold State.tick State.initContext State.atPhase
  rfl

theorem tick_payv (s : State) : (s.atPhase .payv).tick = s.payv.atPhase .idle := by
  have hpayv : (s.atPhase .payv).payv = s.payv.atPhase .payv := by
    by_cases h : checksumBy s.checksumUnit (payloadOf s.cw) = checksumOf s.cw
    · rw [payv_of_match h, payv_of_match (s := s.atPhase .payv) h]
      rfl
    · rw [payv_of_mismatch h, payv_of_mismatch (s := s.atPhase .payv) h]
      rfl
  change (s.atPhase .payv).payv.atPhase .idle = s.payv.atPhase .idle
  rw [hpayv]
  rfl

/-- The three ticks before SYND. -/
theorem ticks_to_synd (s : State) :
    State.ticks 3 (s.atPhase .c2b) =
      ({ s with iter := s.iter + 1#8 }.c2b.b2c.hard).atPhase .synd := by
  unfold State.ticks State.tick State.atPhase State.c2b State.b2c State.hard
  rfl

/-- Four ticks from C2B are one pass, and lead where its exits say (rules R105, R113). -/
theorem ticks_pass (s : State) :
    State.ticks 4 (s.atPhase .c2b) =
      if s.iteration.sok then (s.iteration.withResult .converged).atPhase .payv
      else if s.iteration.iter = s.iteration.maxIter then
        (s.iteration.withResult .maxIterationsExceeded).atPhase .idle
      else s.iteration.atPhase .c2b := by
  rw [ticks_add 3 1, ticks_to_synd]
  unfold State.iteration State.ticks State.tick State.atPhase State.synd
  rfl

/-- Passes that meet no exit take four ticks each. -/
theorem ticks_passes (s : State) (k : Nat)
    (first : ∀ j, 1 ≤ j → j ≤ k → ¬(s.pass j).LoopExit) :
    State.ticks (4 * k) (s.attemptStart.atPhase .c2b) = (s.pass k).atPhase .c2b := by
  induction k with
  | zero => rfl
  | succ k ih =>
    have hexit := first (k + 1) (by omega) (le_refl _)
    rw [State.pass_succ] at hexit ⊢
    rw [Nat.mul_succ, ticks_add, ih fun j hj hjk => first j hj (by omega), ticks_pass,
      if_neg fun hsok => hexit (.inl hsok), if_neg fun hiter => hexit (.inr hiter)]

/-- The pass that ends the attempt, and one tick more for PAYV, reach IDLE with the result. -/
theorem ticks_end {s : State} {k : Nat} (hk : s.EndsAt k) :
    State.ticks (4 * k + 1) (s.attemptStart.atPhase .c2b) =
      (s.pass k).attemptResult.atPhase .idle := by
  have heq := hk.eq_iteration
  have hmax := hk.iter_eq_maxIter
  obtain ⟨one_le, first, -⟩ := hk
  have hticks : 4 * k + 1 = 4 * (k - 1) + 4 + 1 := by omega
  rw [hticks, ticks_add, ticks_add, ticks_passes s (k - 1) fun j hj hjk => first j hj (by omega),
    ticks_pass, ← heq]
  obtain ⟨hsok, hres⟩ | ⟨hsok, hres⟩ := attemptResult_cases (s.pass k)
  · rw [if_pos hsok, hres]
    exact tick_payv _
  · rw [if_neg (by simp [hsok]), if_pos (hmax hsok), hres]
    exact ticks_idle 1 _

/-- The sequencer reaches IDLE in the state the attempt leaves (rule R105). -/
theorem ticks_startAttempt (s : State) :
    State.ticks attemptTicks s.startAttempt = s.runAttempt.atPhase .idle := by
  obtain ⟨k, hfuel, hk, heq⟩ := runAttempt_eq s
  have hticks : attemptTicks = 1 + ((4 * k + 1) + 4 * (loopFuel - k)) := by
    unfold attemptTicks
    omega
  have hinit : State.ticks 1 s.startAttempt = s.attemptStart.atPhase .c2b :=
    tick_init { s with iil := false, iin := false }
  rw [hticks, ticks_add, hinit, ticks_add, ticks_end hk, ticks_idle, heq]

end Sys2Proof.Machine
end

/-! ## Who writes what, runs of LLRP, reset and the two read-outs of the state -/

section

namespace Sys2Proof.Machine

/-! ### A run of LLRP commands (rules R16, R80, R100) -/

theorem decode_encode_llrp (a : AField) (d : DField) :
    decode (encode (.llrp a d)) = .ok (.llrp a d) := by
  obtain ⟨hop, ha, hd⟩ := Laws.EncodeFields.llrp a d
  simp only [decode, hop, ha, hd, Instr.opcode]
  rfl

theorem pushLlr_llrCnt_toNat (s : State) (d : DField) :
    (s.pushLlr d).llrCnt.toNat = min (s.llrCnt.toNat + 1) 255 := by
  rw [State.pushLlr_llrCnt]
  split <;> bv_omega

theorem pushLlr_llrBuf_getElem (s : State) (d : DField) {i : Nat} (hi : i < 174) :
    (s.pushLlr d).llrBuf[i] = if s.llrCnt.toNat = i then d else s.llrBuf[i] := by
  simp only [State.pushLlr]
  split
  · rw [Vector.getElem_set]
  · rw [if_neg (by omega)]

theorem advance_of_step {s t : State} (h : step s = .next t) : s.advance = t := by
  rw [State.advance, h]

/-- One LLRP at the port pushes its value (rule R100). -/
theorem advance_llrp {s : State} {d : DField} {rest : List CommandWord} (hg : s.gfail = false)
    (hc : s.commands = encode (.llrp 0 d) :: rest) :
    s.advance = { s.pushLlr d with
      commands := rest
      response := some (responseWord .ok ((s.pushLlr d).llrCnt.setWidth 32)) } := by
  apply advance_of_step
  rw [step_decoded hc (decode_encode_llrp 0 d)]
  exact congrArg Host.Outcome.next (command_run (.inl hg) rfl rfl)

/-- A run of LLRP from any count: the values go to the elements from the count on, as far as the
buffer goes, and are all counted up to 255. -/
theorem advanceBy_llrps (ds : List DField) {s : State} (hg : s.gfail = false)
    (hc : s.commands = ds.map fun d => encode (.llrp 0 d)) :
    (State.advanceBy ds.length s).llrCnt.toNat = min (s.llrCnt.toNat + ds.length) 255 ∧
    (∀ i, (h : i < 174) → (State.advanceBy ds.length s).llrBuf[i] =
      if s.llrCnt.toNat ≤ i then ds.getD (i - s.llrCnt.toNat) s.llrBuf[i] else s.llrBuf[i]) ∧
    ∃ buf cnt resp, State.advanceBy ds.length s =
      { s with commands := [], llrBuf := buf, llrCnt := cnt, response := resp } := by
  induction ds generalizing s with
  | nil =>
    have hcnt := s.llrCnt.isLt
    refine ⟨?_, fun i hi => ?_, s.llrBuf, s.llrCnt, s.response, ?_⟩
    · simp only [List.length_nil, State.advanceBy]
      omega
    · simp [State.advanceBy]
    · rw [List.map_nil] at hc
      rw [← hc]
      rfl
  | cons d ds ih =>
    have hstep := advance_llrp hg hc
    have hrun : State.advanceBy (d :: ds).length s = State.advanceBy ds.length s.advance := rfl
    obtain ⟨hcnt, hbuf, buf, cnt, resp, heq⟩ := ih (s := s.advance) (by rw [hstep]; exact hg)
      (by rw [hstep])
    have hcount : s.advance.llrCnt.toNat = min (s.llrCnt.toNat + 1) 255 := by
      rw [hstep]
      exact pushLlr_llrCnt_toNat s d
    have hpushed : ∀ i, (hi : i < 174) →
        s.advance.llrBuf[i] = if s.llrCnt.toNat = i then d else s.llrBuf[i] := by
      intro i hi
      simp only [hstep]
      exact pushLlr_llrBuf_getElem s d hi
    rw [hrun]
    refine ⟨?_, fun i hi => ?_, buf, cnt, resp, ?_⟩
    · rw [hcnt, hcount, List.length_cons]
      omega
    · rw [hbuf i hi, hpushed i hi, hcount]
      obtain hlt | heq | hgt := lt_trichotomy i s.llrCnt.toNat
      · rw [if_neg (by omega), if_neg (by omega), if_neg (by omega)]
      · rw [if_neg (by omega), if_pos heq.symm, if_pos (by omega), ← heq, Nat.sub_self]
        rfl
      · have hsucc : i - s.llrCnt.toNat = (i - min (s.llrCnt.toNat + 1) 255) + 1 := by omega
        rw [if_pos (by omega), if_neg (by omega), if_pos (by omega), hsucc, List.getD_cons_succ]
    · rw [heq, hstep]
      rfl

/-! ### STATUS and the RDIT word as numbers (rules R29, R30) -/

theorem status_toNat (s : State) :
    s.status.toNat = (resCode s.res).toNat + 2 ^ 2 * (pvCode s.pv).toNat +
      2 ^ 4 * s.synv.toNat + 2 ^ 5 * s.sok.toNat + 2 ^ 6 * s.iil.toNat + 2 ^ 7 * s.iin.toNat +
      2 ^ 8 * s.gfail.toNat + 2 ^ 9 * s.cerr.toNat + 2 ^ 16 * s.llrCnt.toNat := by
  simp only [State.status, toNat_append, BitVec.toNat_ofBool, BitVec.toNat_ofNat]
  omega

theorem iterationWord_toNat (s : State) :
    s.iterationWord.toNat = s.iter.toNat + 2 ^ 8 * s.maxIter.toNat := by
  simp only [State.iterationWord, toNat_append, BitVec.toNat_ofNat]
  omega

/-! ### Operands of format Z (rule R71) -/

theorem unusedZero_z_eq_false {a : AField} {d : DField} (h : a ≠ 0 ∨ d ≠ 0) :
    Format.z.unusedZero a d = false := by
  rw [Format.unusedZero, Bool.and_eq_false_iff, beq_eq_false_iff_ne, beq_eq_false_iff_ne]
  exact h

/-! ### Reset (rules R35, R201) -/

theorem resetWith_inv (g : GraphRom) (u : ChecksumUnit) : (State.resetWith g u).Inv where
  phase_idle := rfl
  gfail_is_check := rfl
  sok_needs_synv := nofun
  syn_is_parity := nofun
  sok_is_zero := nofun
  syn_zero _ := rfl
  converged := nofun
  exceeded := nofun
  invalid := nofun
  valid := nofun
  no_payload _ := rfl
  totals b hb := by simp [State.resetWith, State.cleared]
  causes _ := ⟨rfl, rfl⟩
  budget := (by decide : 1 ≤ (25 : BitVec 8).toNat)
  l_range b hb := by simpa [State.resetWith, State.cleared] using withinLmax_zero
  q_range b j hb hj := by simpa [State.resetWith, State.cleared, hj] using withinLmax_zero
  r_range b j hb hj := by simpa [State.resetWith, State.cleared, hj] using withinLmax_zero
  tot_range b hb := by simp [State.resetWith, State.cleared]
  unpushed i hi _ := by simp [State.resetWith, State.cleared]

theorem resetWith_items (g : GraphRom) (u : ChecksumUnit) :
    (State.resetWith g u).ConvergedItem ∧ (State.resetWith g u).ExceededItem ∧
      (State.resetWith g u).InvalidItem :=
  ⟨convergedItem_of_ne nofun, exceededItem_of_ne nofun, invalidItem_of_ne nofun⟩

end Sys2Proof.Machine

end

/-! ## The obligations of `10_state.md` -/

section

namespace Sys2Proof.Proofs

open Sys2Proof.Machine

/-- Settles O54: a step has one of the effects of `Effect`, and none breaks the invariants. -/
theorem invariantsAreKeptByEveryStep : Obligations.InvariantsAreKeptByEveryStep :=
  fun _ _ h hstep => h.step hstep

/-- Settles O25: four ticks are one pass, so the ticks follow the passes of the attempt. -/
theorem sequencerTicksAreOneDec : Obligations.SequencerTicksAreOneDec := by
  intro s t hidle hg hlen hfin hexec
  obtain rfl : s.runAttempt.answered s.runAttempt.status = t :=
    Host.Outcome.next.inj ((exec_dec_ran hg hlen hfin).symm.trans hexec)
  have hphase : s.runAttempt.phase = .idle := (State.runAttempt_phase s).trans hidle
  have hresponse : s.runAttempt.response = s.response :=
    runAttempt_keeps State.response (by simp) (by simp) (by simp) s
  rw [ticks_startAttempt, atPhase_idle_eq hphase hresponse]

/-- Settles O26. -/
theorem decConvergedMeansCodeword : Obligations.DecConvergedMeansCodeword :=
  fun _ _ _ _ hexec answer hres => dec_converged (effect_of_exec hexec) answer hres

/-- Settles O28: contexts with the same input leave DEC as grafts of one another. -/
theorem decDependsOnlyOnItsInput : Obligations.DecDependsOnlyOnItsInput := by
  intro s u s' u' hgs hgu hbuf hcnt hmax hgraph hunit hs hu
  have input : s.SameInput u := ⟨hbuf, hcnt, hmax, hgraph, hunit⟩
  obtain rfl := Host.Outcome.next.inj ((exec_dec hgs).symm.trans hs)
  obtain rfl := Host.Outcome.next.inj ((exec_dec hgu).symm.trans hu)
  have hgraft := input.decResult
  have hgfail : u.gfail = s.decResult.gfail := by rw [decResult_gfail, hgs, hgu]
  refine ⟨?_, decResult_cerr s, decResult_gfail s, _, _, rfl, rfl, ?_, ?_, fun i hi => ?_⟩
  · rw [hgraft]
    exact ⟨rfl, rfl, rfl, rfl, rfl, rfl, rfl, rfl, rfl, rfl, rfl, rfl, rfl, rfl⟩
  · rw [responseWord_bit_low _ _ (by decide), status_bit_cerr, decResult_cerr]
  · rw [responseWord_bit_low _ _ (by decide), status_bit_cerr, decResult_cerr]
  · have hbit := status_bit_graft (x := s.decResult)
      (o := u.withResult s.decResult.res) rfl hgfail hi
    rw [input.decCode, hgraft, responseWord, responseWord, BitVec.getLsbD_append,
      BitVec.getLsbD_append, hbit]

/-- Settles O55. -/
theorem decItemsEndOnlyBySetitSynAndPay : Obligations.DecItemsEndOnlyBySetitSynAndPay := by
  refine ⟨fun a d s t h hexec answer => ?_, fun i s t h hexec => ?_, fun s h hg hres => ?_⟩
  · exact dec_items (effect_of_exec hexec) h.budget answer
  · have effect := effect_of_exec hexec
    exact ⟨effect.keeps_convergedItem h, effect.keeps_exceededItem h, effect.keeps_invalidItem h⟩
  · exact ⟨exec_syn_of_invalid h hg hres, exec_pay_of_invalid h hg hres⟩

/-- Settles O56: each effect names what it writes. -/
theorem onlyTheNamedCommandsWrite : Obligations.OnlyTheNamedCommandsWrite := by
  intro i s t hexec
  have effect := effect_of_exec hexec
  generalize i.opcode = op at effect
  cases effect <;> simp [State.inputRefused]

/-- Settles O57. -/
theorem cerrRecordsMalformedCommands : Obligations.CerrRecordsMalformedCommands :=
  fun _ _ hstep => step_cerr_iff hstep

/-- Settles O60: `advanceBy_llrps` from the count 0. -/
theorem pushesFillTheBufferInOrder : Obligations.PushesFillTheBufferInOrder := by
  rintro s t ds hg hzero hcommands rfl
  rw [Pseudo.expand, List.map_map] at hcommands
  obtain ⟨hcnt, hbuf, buf, cnt, resp, heq⟩ := advanceBy_llrps ds hg hcommands
  simp only [hzero] at hcnt hbuf
  refine ⟨?_, ?_, fun i hi => ?_, ?_⟩
  · rw [heq]
  · simpa using hcnt
  · simpa using hbuf i hi
  · rw [heq]

/-- Settles O5. -/
theorem stepRunsTheDecodedCommand : Obligations.StepRunsTheDecodedCommand :=
  fun _ _ _ _ hcommands hdecode => step_decoded hcommands hdecode

/-- Settles O6. -/
theorem portDecidesWhatRuns : Obligations.PortDecidesWhatRuns := by
  refine ⟨fun s hidle => step_idle hidle, fun s w i hdecode => ?_⟩
  have hword : BitVec.ofNat 64 (w % 2 ^ 64) = BitVec.ofNat 64 w := by
    apply BitVec.eq_of_toNat_eq
    simp
  rw [State.withFetchWord, hword]
  exact step_decoded rfl hdecode

/-- Settles O41. -/
theorem rdstReadsTheStatusWord : Obligations.RdstReadsTheStatusWord := by
  refine fun a d s => ⟨fun hbad => ?_, ?_⟩
  · exact congrArg Host.Outcome.next
      (command_operandRefused (.inr rfl) (.inl (unusedZero_z_eq_false hbad)))
  · rintro rfl rfl
    refine ⟨s.status, ?_, congrArg Host.Outcome.next (command_run (.inr rfl) rfl rfl)⟩
    rw [status_toNat]
    cases s.res <;> cases s.pv <;> rfl

/-- Settles O42. -/
theorem rditReadsIterationsAndBudget : Obligations.RditReadsIterationsAndBudget := by
  refine fun a d s => ⟨fun hg => ?_, fun hg hbad => ?_, ?_⟩
  · exact congrArg Host.Outcome.next (command_graphRefused hg)
  · exact congrArg Host.Outcome.next
      (command_operandRefused (.inl hg) (.inl (unusedZero_z_eq_false hbad)))
  · rintro hg rfl rfl
    exact ⟨s.iterationWord, iterationWord_toNat s,
      congrArg Host.Outcome.next (command_run (.inl hg) rfl rfl)⟩

/-- Settles O52. -/
theorem resetLeavesTheStatedValues : Obligations.ResetLeavesTheStatedValues := by
  refine ⟨fun g u s hs => ?_, fun b => by simp⟩
  have heq : s = State.resetWith g u := by
    obtain heq | ⟨r, rfl, rfl, heq⟩ | ⟨b, k, r, hr, rfl, rfl, hs⟩ := hs
    · exact heq
    · exact heq
    · rw [externalReset_contexts, List.getElem?_map, hr] at hs
      exact (Option.some.inj hs).symm
  subst heq
  refine ⟨rfl, rfl, rfl, rfl, fun i hi => ?_, rfl, rfl, rfl, rfl, rfl, rfl, rfl, rfl, rfl, rfl,
    ?_, rfl, rfl⟩
  · simp +contextual [State.resetWith, State.cleared]
  · simp [State.resetWith]

/-- Settles O53. -/
theorem invariantsHoldAfterReset : Obligations.InvariantsHoldAfterReset := by
  have hreset : ∀ g u, (State.resetWith g u).Inv ∧ (State.resetWith g u).ConvergedItem ∧
      (State.resetWith g u).ExceededItem ∧ (State.resetWith g u).InvalidItem :=
    fun g u => ⟨resetWith_inv g u, resetWith_items g u⟩
  refine ⟨?_, ?_⟩
  · rintro g u s rfl
    exact hreset g u
  · rw [Laws.reset_eq_resetWith]
    exact hreset _ _

end Sys2Proof.Proofs

end

/-! ## The graph ROM: its accessors, the check WF, edges and slots -/

section

namespace Sys2Proof.GraphRom

open Sys2Proof.Machine

variable {g : GraphRom}

/-! ### Raw entries and the indices they name (rules R45, R46) -/

theorem ne_zero_iff_one_le {v : BitVec 8} : v ≠ 0#8 ↔ 1 ≤ v.toNat := by
  rw [Nat.one_le_iff_ne_zero, ne_eq, BitVec.toNat_eq, BitVec.toNat_zero]

theorem normalise_eq_iff {v : BitVec 8} (hv : v ≠ 0#8) (n : Nat) :
    normalise v = n ↔ v.toNat = n + 1 := by
  have hpos := ne_zero_iff_one_le.1 hv
  unfold normalise
  omega

theorem normalise_inj {v w : BitVec 8} (hv : v ≠ 0#8) (hw : w ≠ 0#8) :
    normalise v = normalise w ↔ v = w := by
  have hpos := ne_zero_iff_one_le.1 hw
  rw [normalise_eq_iff hv, BitVec.toNat_eq, normalise]
  omega

/-! ### The accessors in terms of the raw rows (rules R48, R49) -/

theorem bitsOf_eq_map_filter {c : Nat} (hc : c < 83) :
    g.bitsOf c = (g.nm[c].toList.filter (· != 0#8)).map normalise := by
  rw [bitsOf, nmRow_eq g hc]

theorem checksOf_eq_map {b : Nat} (hb : b < 174) :
    g.checksOf b = g.mn[b].toList.map normalise := by
  rw [checksOf, mnRow_eq g hb]

theorem mem_bitsOf {b c : Nat} (hc : c < 83) :
    b ∈ g.bitsOf c ↔ ∃ k, ∃ hk : k < 7, g.nm[c][k].toNat = b + 1 := by
  have hentry : ∀ v : BitVec 8, v ≠ 0#8 ∧ normalise v = b ↔ v.toNat = b + 1 := fun v =>
    ⟨fun ⟨hv, heq⟩ => (normalise_eq_iff hv b).1 heq, fun heq =>
      have hv : v ≠ 0#8 := ne_zero_iff_one_le.2 (by omega)
      ⟨hv, (normalise_eq_iff hv b).2 heq⟩⟩
  simp only [bitsOf_eq_map_filter hc, List.mem_map, List.mem_filter, bne_iff_ne, and_assoc, hentry,
    Vector.mem_toList_iff, Vector.mem_iff_getElem]
  constructor
  · rintro ⟨_, ⟨k, hk, rfl⟩, heq⟩
    exact ⟨k, hk, heq⟩
  · rintro ⟨k, hk, heq⟩
    exact ⟨_, ⟨k, hk, rfl⟩, heq⟩

theorem mem_checksOf {b c : Nat} (hb : b < 174) :
    c ∈ g.checksOf b ↔ ∃ j, ∃ hj : j < 3, normalise g.mn[b][j] = c := by
  simp [checksOf_eq_map hb, Vector.mem_iff_getElem]

theorem length_checksOf {b : Nat} (hb : b < 174) : (g.checksOf b).length = 3 := by
  simp [checksOf_eq_map hb]

theorem toList_eq_map_finRange {α : Type} {n : Nat} (v : Vector α n) :
    v.toList = (List.finRange n).map fun k : Fin n => v[k] := by
  apply List.ext_getElem <;> simp

theorem bitsOf_eq_filterMap {c : Nat} (hc : c < 83) :
    g.bitsOf c = (List.finRange 7).filterMap (fun k : Fin 7 =>
      if g.nm[c][k] = 0 then none else some (g.nm[c][k].toNat - 1)) := by
  rw [bitsOf_eq_map_filter hc, toList_eq_map_finRange, ← List.filterMap_eq_map,
    List.filterMap_filter, List.filterMap_map]
  congr 1
  funext k
  simp [normalise]

theorem checksOf_eq_three {b : Nat} (hb : b < 174) :
    g.checksOf b =
      [g.mn[b][0].toNat - 1, g.mn[b][1].toNat - 1, g.mn[b][2].toNat - 1] := by
  rw [checksOf_eq_map hb, toList_eq_map_finRange]
  rfl

/-! ### W1 to W4 on the raw entries (rule R47) -/

theorem noRepeats_iff_nodup (l : List Nat) : noRepeats l = true ↔ l.Nodup := by
  induction l with
  | nil => simp [noRepeats]
  | cons x xs ih => simp [noRepeats, ih]

/-- For a symmetric relation the order of the two places does not matter. -/
theorem pairwise_toList_iff {α : Type} {n : Nat} {R : α → α → Prop}
    (symm : ∀ x y, R x y → R y x) (v : Vector α n) :
    v.toList.Pairwise R ↔
      ∀ i j, (hi : i < n) → (hj : j < n) → i ≠ j → R v[i] v[j] := by
  simp only [List.pairwise_iff_getElem, Vector.length_toList, Vector.getElem_toList]
  constructor
  · intro h i j hi hj hne
    obtain hlt | hlt := Nat.lt_or_gt_of_ne hne
    · exact h i j hi hj hlt
    · exact symm _ _ (h j i hj hi hlt)
  · exact fun h i j hi hj hlt => h i j hi hj (Nat.ne_of_lt hlt)

theorem nodup_bitsOf_iff {c : Nat} (hc : c < 83) :
    (g.bitsOf c).Nodup ↔ ∀ k k', (h' : k < 7) → (h'' : k' < 7) → k ≠ k' →
      g.nm[c][k] ≠ 0 → g.nm[c][k] ≠ g.nm[c][k'] := by
  have hentry : ∀ v w : BitVec 8, (v ≠ 0#8 → w ≠ 0#8 → normalise v ≠ normalise w) ↔
      (v ≠ 0#8 → v ≠ w) := by
    intro v w
    refine forall_congr' fun hv => ⟨fun h heq => ?_, fun h hw heq => ?_⟩
    · exact h (heq ▸ hv) (congrArg normalise heq)
    · exact h ((normalise_inj hv hw).1 heq)
  rw [bitsOf_eq_map_filter hc, List.Nodup, List.pairwise_map, List.pairwise_filter]
  simp only [bne_iff_ne, hentry]
  exact pairwise_toList_iff (R := fun v w => v ≠ 0#8 → v ≠ w)
    (fun v w h hw heq => h (heq ▸ hw) heq.symm) g.nm[c]

theorem w1_iff : g.w1 = true ↔
    ∀ c, (h : c < 83) → (∀ k, (h' : k < 6) → 1 ≤ g.nm[c][k].toNat ∧ g.nm[c][k].toNat ≤ 174) ∧
      g.nm[c][6].toNat ≤ 174 := by
  simp only [w1, List.all_eq_true, List.mem_range, Bool.and_eq_true]
  refine forall_congr' fun c => forall_congr' fun hc => ?_
  simp only [nmRow_eq g hc, List.forall_mem_iff_getElem, List.length_take, Vector.length_toList,
    List.getElem_take, Vector.getElem_toList, decide_eq_true_eq, bne_iff_ne, ne_zero_iff_one_le]
  constructor
  · rintro ⟨hle, hpos⟩
    exact ⟨fun k hk => ⟨hpos k (by omega), hle k (by omega)⟩, hle 6 (by omega)⟩
  · rintro ⟨hsix, hlast⟩
    refine ⟨fun k hk => ?_, fun k hk => (hsix k (by omega)).1⟩
    obtain hlt | rfl : k < 6 ∨ k = 6 := by omega
    · exact (hsix k hlt).2
    · exact hlast

theorem w2_iff : g.w2 = true ↔
    ∀ b j, (h : b < 174) → (h' : j < 3) → 1 ≤ g.mn[b][j].toNat ∧ g.mn[b][j].toNat ≤ 83 := by
  simp only [w2, List.all_eq_true, List.mem_range]
  constructor
  · intro h b j hb hj
    simpa using h b hb g.mn[b][j] (by simp [mnRow_eq g hb])
  · intro h b hb v hv
    rw [mnRow_eq g hb, Vector.mem_toList_iff, Vector.mem_iff_getElem] at hv
    obtain ⟨j, hj, rfl⟩ := hv
    simpa using h b j hb hj

theorem raw_check_ne_zero (hw2 : g.w2 = true) {b j : Nat} (hb : b < 174) (hj : j < 3) :
    g.mn[b][j] ≠ 0#8 :=
  ne_zero_iff_one_le.2 (w2_iff.1 hw2 b j hb hj).1

theorem nodup_checksOf_iff (hw2 : g.w2 = true) {b : Nat} (hb : b < 174) :
    (g.checksOf b).Nodup ↔ ∀ j j', (h' : j < 3) → (h'' : j' < 3) → j ≠ j' →
      g.mn[b][j] ≠ g.mn[b][j'] := by
  rw [checksOf_eq_map hb, List.Nodup, List.pairwise_map,
    pairwise_toList_iff fun _ _ => Ne.symm]
  refine forall_congr' fun j => forall_congr' fun j' => forall_congr' fun hj =>
    forall_congr' fun hj' => forall_congr' fun _ => ?_
  exact not_congr (normalise_inj (raw_check_ne_zero hw2 hb hj) (raw_check_ne_zero hw2 hb hj'))

theorem w3_iff : g.w3 = true ↔
    (∀ c, c < 83 → (g.bitsOf c).Nodup) ∧ ∀ b, b < 174 → (g.checksOf b).Nodup := by
  simp [w3, noRepeats_iff_nodup]

theorem w4_iff : g.w4 = true ↔
    (∀ b, b < 174 → ∀ c ∈ g.checksOf b, b ∈ g.bitsOf c) ∧
      ∀ c, c < 83 → ∀ b ∈ g.bitsOf c, c ∈ g.checksOf b := by
  simp [w4]

theorem wf_iff_checks : g.wf = true ↔
    g.w1 = true ∧ g.w2 = true ∧ g.w3 = true ∧ g.w4 = true := by
  simp [wf, and_assoc]

/-! ### What the checks give of the accessors, one at a time -/

theorem lt_of_mem_bitsOf (hw1 : g.w1 = true) {b c : Nat} (hc : c < 83) (hb : b ∈ g.bitsOf c) :
    b < 174 := by
  obtain ⟨k, hk, heq⟩ := (mem_bitsOf hc).1 hb
  obtain ⟨hsix, hlast⟩ := w1_iff.1 hw1 c hc
  obtain hlt | rfl : k < 6 ∨ k = 6 := by omega
  · have := hsix k hlt
    omega
  · omega

theorem deg_eq_six_or_seven (hw1 : g.w1 = true) {c : Nat} (hc : c < 83) :
    g.deg c = 6 ∨ g.deg c = 7 := by
  have hsix : ∀ k, (hk : k < 6) → g.nm[c][k] ≠ 0#8 := fun k hk =>
    ne_zero_iff_one_le.2 ((w1_iff.1 hw1 c hc).1 k hk).1
  rw [deg, bitsOf_eq_map_filter hc, toList_eq_map_finRange]
  by_cases hlast : g.nm[c][6] = 0#8 <;> simp [List.finRange_succ, hsix, hlast]

theorem mem_checksOf_iff_raw (hw2 : g.w2 = true) {b c : Nat} (hb : b < 174) :
    c ∈ g.checksOf b ↔ ∃ j, ∃ hj : j < 3, g.mn[b][j].toNat = c + 1 := by
  rw [mem_checksOf hb]
  exact exists_congr fun j => exists_congr fun hj =>
    normalise_eq_iff (raw_check_ne_zero hw2 hb hj) c

theorem lt_of_mem_checksOf (hw2 : g.w2 = true) {b c : Nat} (hb : b < 174)
    (hc : c ∈ g.checksOf b) : c < 83 := by
  obtain ⟨j, hj, heq⟩ := (mem_checksOf_iff_raw hw2 hb).1 hc
  have := w2_iff.1 hw2 b j hb hj
  omega

/-- With both tables in range, W4 says of every bit and check that both tables agree. -/
theorem w4_iff_edges_agree (hw1 : g.w1 = true) (hw2 : g.w2 = true) : g.w4 = true ↔
    ∀ b c, b < 174 → c < 83 → (c ∈ g.checksOf b ↔ b ∈ g.bitsOf c) := by
  rw [w4_iff]
  constructor
  · rintro ⟨hbits, hchecks⟩ b c hb hc
    exact ⟨hbits b hb c, hchecks c hc b⟩
  · intro h
    refine ⟨fun b hb c hmem => ?_, fun c hc b hmem => ?_⟩
    · exact (h b c hb (lt_of_mem_checksOf hw2 hb hmem)).1 hmem
    · exact (h b c (lt_of_mem_bitsOf hw1 hc hmem) hc).2 hmem

/-! ### Edges of a well-formed GRAPH -/

section wf

variable (hw : g.wf = true)
include hw

theorem mem_checksOf_iff_mem_bitsOf {b c : Nat} (hb : b < 174) (hc : c < 83) :
    c ∈ g.checksOf b ↔ b ∈ g.bitsOf c :=
  have ⟨hw1, hw2, _, hw4⟩ := wf_iff_checks.1 hw
  (w4_iff_edges_agree hw1 hw2).1 hw4 b c hb hc

theorem nodup_bitsOf {c : Nat} (hc : c < 83) : (g.bitsOf c).Nodup :=
  have ⟨_, _, hw3, _⟩ := wf_iff_checks.1 hw
  (w3_iff.1 hw3).1 c hc

theorem nodup_checksOf {b : Nat} (hb : b < 174) : (g.checksOf b).Nodup :=
  have ⟨_, _, hw3, _⟩ := wf_iff_checks.1 hw
  (w3_iff.1 hw3).2 b hb

theorem wf_bitsOf_lt {b c : Nat} (hc : c < 83) (hb : b ∈ g.bitsOf c) : b < 174 :=
  have ⟨hw1, _⟩ := wf_iff_checks.1 hw
  lt_of_mem_bitsOf hw1 hc hb

theorem wf_checksOf_lt {b c : Nat} (hb : b < 174) (hc : c ∈ g.checksOf b) : c < 83 :=
  have ⟨_, hw2, _⟩ := wf_iff_checks.1 hw
  lt_of_mem_checksOf hw2 hb hc

theorem wf_deg {c : Nat} (hc : c < 83) : g.deg c = 6 ∨ g.deg c = 7 :=
  have ⟨hw1, _⟩ := wf_iff_checks.1 hw
  deg_eq_six_or_seven hw1 hc

end wf

/-! ### Slots (rule R50) -/

/-- In a list without repeats an element stands at one place. -/
theorem getElem?_eq_some_iff_eq_idxOf {l : List Nat} (h : l.Nodup) {a i : Nat} (ha : a ∈ l) :
    l[i]? = some a ↔ i = l.idxOf a := by
  constructor
  · intro hi
    obtain ⟨hlt, rfl⟩ := List.getElem?_eq_some_iff.1 hi
    exact (h.idxOf_getElem i hlt).symm
  · rintro rfl
    exact List.getElem?_idxOf ha

theorem slot_lt {b c : Nat} (hb : b < 174) (hc : c ∈ g.checksOf b) : g.slot b c < 3 :=
  length_checksOf (g := g) hb ▸ List.idxOf_lt_length_iff.2 hc

theorem checksOf_getElem?_iff_slot (hw : g.wf = true) {b c j : Nat} (hb : b < 174)
    (hc : c ∈ g.checksOf b) : (g.checksOf b)[j]? = some c ↔ j = g.slot b c :=
  getElem?_eq_some_iff_eq_idxOf (nodup_checksOf hw hb) hc

/-- The only position of bit `b` whose message place is `j` is where `b` stands in its `j`-th
check. -/
theorem position_of_place_iff (hw : g.wf = true) {b j c : Nat} (hb : b < 174)
    (hj : (g.checksOf b)[j]? = some c) (p : Nat × Nat) :
    (p.1 < 83 ∧ (g.bitsOf p.1)[p.2]? = some b ∧ g.slot b p.1 = j) ↔
      p = (c, (g.bitsOf c).idxOf b) := by
  have hmem : c ∈ g.checksOf b := List.mem_of_getElem? hj
  have hc : c < 83 := wf_checksOf_lt hw hb hmem
  have hbit : b ∈ g.bitsOf c := (mem_checksOf_iff_mem_bitsOf hw hb hc).1 hmem
  have hplace : ∀ k, (g.bitsOf c)[k]? = some b ↔ k = (g.bitsOf c).idxOf b := fun _ =>
    getElem?_eq_some_iff_eq_idxOf (nodup_bitsOf hw hc) hbit
  constructor
  · rintro ⟨hp, hat, rfl⟩
    have hmem' : p.1 ∈ g.checksOf b :=
      (mem_checksOf_iff_mem_bitsOf hw hb hp).2 (List.mem_of_getElem? hat)
    have hcheck : p.1 = c :=
      Option.some.inj (((checksOf_getElem?_iff_slot hw hb hmem').2 rfl).symm.trans hj)
    rw [hcheck] at hat
    exact Prod.ext hcheck ((hplace _).1 hat)
  · rintro rfl
    exact ⟨hc, (hplace _).2 rfl, ((checksOf_getElem?_iff_slot hw hb hmem).1 hj).symm⟩

/-! ### Counting edges (rule R51) -/

theorem sum_length_checksOf :
    ((List.range 174).map fun b => (g.checksOf b).length).sum = 522 := by
  rw [List.map_congr_left fun b hb => length_checksOf (List.mem_range.1 hb),
    List.map_const', List.sum_replicate, List.length_range, smul_eq_mul]

/-- Counted from the checks and from the bits the edges are the same (W4). -/
theorem sum_deg_eq_sum_length_checksOf (hw : g.wf = true) :
    ((List.range 83).map g.deg).sum =
      ((List.range 174).map fun b => (g.checksOf b).length).sum := by
  have hdeg : ∀ c ∈ Finset.range 83, g.deg c =
      (Finset.bipartiteAbove (fun c b => b ∈ g.bitsOf c) (Finset.range 174) c).card := by
    intro c hc
    have hc := Finset.mem_range.1 hc
    rw [deg, ← List.toFinset_card_of_nodup (nodup_bitsOf hw hc)]
    congr 1
    ext b
    simpa [Finset.mem_bipartiteAbove] using fun hb => wf_bitsOf_lt hw hc hb
  have hlen : ∀ b ∈ Finset.range 174, (g.checksOf b).length =
      (Finset.bipartiteBelow (fun c b => b ∈ g.bitsOf c) (Finset.range 83) b).card := by
    intro b hb
    have hb := Finset.mem_range.1 hb
    rw [← List.toFinset_card_of_nodup (nodup_checksOf hw hb)]
    congr 1
    ext c
    rw [List.mem_toFinset, Finset.mem_bipartiteBelow, Finset.mem_range]
    constructor
    · intro hc
      have hlt := wf_checksOf_lt hw hb hc
      exact ⟨hlt, (mem_checksOf_iff_mem_bitsOf hw hb hlt).1 hc⟩
    · rintro ⟨hlt, hc⟩
      exact (mem_checksOf_iff_mem_bitsOf hw hb hlt).2 hc
  calc ((List.range 83).map g.deg).sum
      = ∑ c ∈ Finset.range 83, g.deg c := rfl
    _ = ∑ b ∈ Finset.range 174, (g.checksOf b).length := by
      rw [Finset.sum_congr rfl hdeg, Finset.sum_congr rfl hlen,
        Finset.sum_card_bipartiteAbove_eq_sum_card_bipartiteBelow]
    _ = ((List.range 174).map fun b => (g.checksOf b).length).sum := rfl

theorem length_and_sum_of_six_or_seven (f : Nat → Nat) {l : List Nat}
    (h : ∀ x ∈ l, f x = 6 ∨ f x = 7) :
    l.length = l.countP (fun x => f x == 6) + l.countP (fun x => f x == 7) ∧
      (l.map f).sum =
        6 * l.countP (fun x => f x == 6) + 7 * l.countP (fun x => f x == 7) := by
  induction l with
  | nil => simp
  | cons x xs ih =>
    obtain ⟨hlen, hsum⟩ := ih fun y hy => h y (List.mem_cons_of_mem x hy)
    obtain hx | hx := h x List.mem_cons_self <;>
      simp only [List.length_cons, List.map_cons, List.sum_cons, List.countP_cons, hx] <;>
      simp <;> omega

end Sys2Proof.GraphRom

end

/-! ## Schedules of the block, and operands read as numbers -/

section

namespace Sys2Proof.Machine

/-! ### The block under a schedule (rules R58, R188) -/

theorem stepContext_contexts_self (b : Block) (k : Nat) :
    (b.stepContext k).contexts[k]? = (b.contexts[k]?).map State.advance := by
  simp [Block.stepContext]

theorem stepContext_contexts_of_ne (b : Block) {i k : Nat} (h : i ≠ k) :
    (b.stepContext i).contexts[k]? = b.contexts[k]? := by
  simp [Block.stepContext, h]

/-- A context is where its own turns in the schedule take it. -/
theorem run_contexts (b : Block) (schedule : List Nat) (k : Nat) :
    (b.run schedule).contexts[k]? =
      (b.contexts[k]?).map (State.advanceBy (schedule.count k)) := by
  induction schedule generalizing b with
  | nil =>
    have hstay : State.advanceBy 0 = id := rfl
    rw [List.count_nil, hstay, Option.map_id_apply]
    rfl
  | cons i rest ih =>
    have hrun : b.run (i :: rest) = (b.stepContext i).run rest := rfl
    rw [hrun, ih]
    by_cases h : i = k
    · subst h
      rw [stepContext_contexts_self, Option.map_map, List.count_cons_self]
      rfl
    · rw [stepContext_contexts_of_ne b h, List.count_cons_of_ne h]

theorem run_eq_of_perm (b : Block) {schedule schedule' : List Nat}
    (h : schedule.Perm schedule') : b.run schedule = b.run schedule' := by
  rw [Block.mk.injEq]
  apply List.ext_getElem?
  intro k
  rw [run_contexts, run_contexts, h.count_eq]

theorem powerUp_contexts (g : GraphRom) (u : ChecksumUnit) {k : Nat} (hk : k < Config.nctx) :
    (Block.powerUp g u).contexts[k]? = some (State.resetWith g u) :=
  List.getElem?_replicate_of_lt hk

/-! ### Operands of format A, and the sub-fields of RDMSG (rules R54, R71) -/

theorem unusedZero_a_eq_false {a : AField} {d : DField} (h : d ≠ 0) :
    Format.a.unusedZero a d = false := beq_eq_false_iff_ne.2 h

theorem bitIndexLegal_iff (a : AField) : bitIndexLegal a = true ↔ a.toNat < 174 := by
  simp [bitIndexLegal, BitVec.le_def]
  omega

theorem messageBit_eq (a : AField) : messageBit a = a.toNat % 2 ^ 8 := by
  simp [messageBit, BitVec.extractLsb'_toNat]

theorem messageSlot_eq (a : AField) : messageSlot a = a.toNat / 2 ^ 8 % 4 := by
  simp [messageSlot, BitVec.extractLsb'_toNat, Nat.shiftRight_eq_div_pow]

theorem messageIsFromCheck_iff (a : AField) :
    messageIsFromCheck a = true ↔ ¬ a.toNat / 2 ^ 10 % 2 = 0 := by
  rw [messageIsFromCheck, BitVec.getLsbD, Nat.testBit_eq_decide_div_mod_eq, decide_eq_true_eq]
  omega

theorem messageIndexLegal_iff (a : AField) :
    messageIndexLegal a = true ↔
      a.toNat / 2 ^ 11 = 0 ∧ a.toNat % 2 ^ 8 < 174 ∧ a.toNat / 2 ^ 8 % 4 < 3 := by
  have hunused : a.extractLsb' 11 13 = 0#13 ↔ a.toNat / 2 ^ 11 = 0 := by
    rw [← BitVec.toNat_inj, BitVec.extractLsb'_toNat, Nat.shiftRight_eq_div_pow,
      BitVec.toNat_zero]
    omega
  simp only [messageIndexLegal, Bool.and_eq_true, beq_iff_eq, decide_eq_true_eq, hunused,
    messageBit_eq, messageSlot_eq]
  omega

/-- The word RDMSG answers for legal operands (rule R156). -/
theorem rdmsg_message {a : AField} (s : State) (hb : a.toNat % 2 ^ 8 < 174)
    (hj : a.toNat / 2 ^ 8 % 4 < 3) :
    messageAt (if messageIsFromCheck a then s.r else s.q) (messageBit a) (messageSlot a) =
      if a.toNat / 2 ^ 10 % 2 = 0 then s.q[a.toNat % 2 ^ 8][a.toNat / 2 ^ 8 % 4]
        else s.r[a.toNat % 2 ^ 8][a.toNat / 2 ^ 8 % 4] := by
  simp only [messageBit_eq, messageSlot_eq, messageIsFromCheck_iff, ite_not]
  split <;> exact messageAt_eq_getElem _ hb hj

/-! ### The bytes of CHKOF (rules R49, R91) -/

theorem checkByte_toNat (g : GraphRom) {b j : Nat} (hb : b < 174) (hj : j < 3) :
    (checkByte g b j).toNat = g.mn[b][j].toNat - 1 := by
  have hlt := g.mn[b][j].isLt
  have hentry : (g.checksOf b).getD j 0 = g.mn[b][j].toNat - 1 := by
    simp [GraphRom.checksOf_eq_map hb, normalise, hj]
  rw [checkByte, hentry, BitVec.toNat_ofNat]
  omega

end Sys2Proof.Machine

end

/-! ## The obligations of `20_memory.md` -/

section

namespace Sys2Proof.Proofs

open Sys2Proof.Machine

/-- Settles O12. -/
theorem accessorsNormaliseTheTables : Obligations.AccessorsNormaliseTheTables := by
  refine fun g => ⟨fun c hc => ⟨GraphRom.bitsOf_eq_filterMap hc, fun hw => ?_⟩,
    fun b hb => ⟨GraphRom.checksOf_eq_three hb, fun hw => ?_⟩⟩
  · exact ⟨GraphRom.wf_deg hw hc, rfl, fun _ hb => GraphRom.wf_bitsOf_lt hw hc hb,
      GraphRom.nodup_bitsOf hw hc⟩
  · exact ⟨fun _ hc => GraphRom.wf_checksOf_lt hw hb hc, GraphRom.nodup_checksOf hw hb⟩

/-- Settles O13: each check in turn, W3 and W4 for tables already in range. -/
theorem graphCheckIsBidirectionalConsistency :
    Obligations.GraphCheckIsBidirectionalConsistency := by
  intro g
  rw [GraphRom.wf_iff_checks, ← GraphRom.w1_iff, ← GraphRom.w2_iff]
  refine and_congr_right fun hw1 => and_congr_right fun hw2 => and_congr ?_ ?_
  · rw [GraphRom.w3_iff]
    refine and_congr ?_ ?_
    · exact ⟨fun h c k k' hc => (GraphRom.nodup_bitsOf_iff hc).1 (h c hc) k k',
        fun h c hc => (GraphRom.nodup_bitsOf_iff hc).2 fun k k' => h c k k' hc⟩
    · exact ⟨fun h b j j' hb => (GraphRom.nodup_checksOf_iff hw2 hb).1 (h b hb) j j',
        fun h b hb => (GraphRom.nodup_checksOf_iff hw2 hb).2 fun j j' => h b j j' hb⟩
  · rw [GraphRom.w4_iff_edges_agree hw1 hw2]
    refine forall_congr' fun b => forall_congr' fun c => forall_congr' fun hb =>
      forall_congr' fun hc => ?_
    rw [GraphRom.mem_checksOf_iff_raw hw2 hb, GraphRom.mem_bitsOf hc]

/-- Settles O14: every edge stands once in each table, so places and positions name the same edges. -/
theorem edgeSlotsAreABijection : Obligations.EdgeSlotsAreABijection := by
  refine fun g hw => ⟨fun c b hc hbit => ?_, fun b j hb hj => ?_⟩
  · have hb : b < 174 := GraphRom.wf_bitsOf_lt hw hc hbit
    have hmem : c ∈ g.checksOf b := (GraphRom.mem_checksOf_iff_mem_bitsOf hw hb hc).2 hbit
    exact ⟨GraphRom.slot_lt hb hmem, (GraphRom.checksOf_getElem?_iff_slot hw hb hmem).2 rfl,
      fun _ => (GraphRom.checksOf_getElem?_iff_slot hw hb hmem).1⟩
  · have hplace : j < (g.checksOf b).length := by rwa [GraphRom.length_checksOf hb]
    have hposition :=
      GraphRom.position_of_place_iff hw hb (List.getElem?_eq_getElem hplace)
    exact ⟨_, (hposition _).2 rfl, fun p => (hposition p).1⟩

/-- Settles O15: 83 checks of degree 6 or 7 have 522 edges, three for each bit. -/
theorem twentyFourChecksHaveDegreeSeven : Obligations.TwentyFourChecksHaveDegreeSeven := by
  intro g hw
  have hbits : ((List.range 174).map fun b => (g.checksOf b).length).sum = 522 :=
    GraphRom.sum_length_checksOf
  have hchecks : ((List.range 83).map g.deg).sum = 522 :=
    (GraphRom.sum_deg_eq_sum_length_checksOf hw).trans hbits
  obtain ⟨hlen, hsum⟩ := GraphRom.length_and_sum_of_six_or_seven g.deg (l := List.range 83)
    fun c hc => GraphRom.wf_deg hw (List.mem_range.1 hc)
  rw [List.length_range] at hlen
  exact ⟨hbits, hchecks, by omega, by omega⟩

/-- Settles O58. -/
theorem contextsDoNotInterfere : Obligations.ContextsDoNotInterfere :=
  ⟨run_contexts, fun b _ _ h => run_eq_of_perm b h, fun g u _ hk => powerUp_contexts g u hk⟩

/-- Settles O48. -/
theorem rdmsgReadsAnEdgeMessage : Obligations.RdmsgReadsAnEdgeMessage := by
  refine fun a d s => ⟨fun hg => ?_, fun hg hbad => ?_, ?_⟩
  · exact congrArg Host.Outcome.next (command_graphRefused hg)
  · refine congrArg Host.Outcome.next (command_operandRefused (.inl hg) ?_)
    refine hbad.imp unusedZero_a_eq_false fun hillegal => ?_
    rw [Bool.eq_false_iff, ne_eq, messageIndexLegal_iff]
    omega
  · rintro hg rfl hunused hb hj
    have hlegal := (messageIndexLegal_iff a).2 ⟨hunused, hb, hj⟩
    rw [← rdmsg_message s hb hj]
    exact congrArg Host.Outcome.next (command_run (.inl hg) rfl hlegal)

/-- Settles O49. -/
theorem chkofReadsTheChecksOfABit : Obligations.ChkofReadsTheChecksOfABit := by
  refine fun a d s => ⟨fun hg => ?_, fun hg hbad => ?_, ?_⟩
  · exact congrArg Host.Outcome.next (command_graphRefused hg)
  · refine congrArg Host.Outcome.next (command_operandRefused (.inl hg) ?_)
    refine hbad.imp unusedZero_a_eq_false fun hillegal => ?_
    rw [Bool.eq_false_iff, ne_eq, bitIndexLegal_iff]
    omega
  · rintro hg rfl hb
    refine ⟨_, ?_, congrArg Host.Outcome.next
      (command_run (.inl hg) rfl ((bitIndexLegal_iff a).2 hb))⟩
    simp only [toNat_append, checkByte_toNat s.graph hb, Nat.lt_add_one, Nat.one_lt_ofNat,
      Nat.zero_lt_succ, BitVec.toNat_ofNat]
    omega

end Sys2Proof.Proofs

end

/-! ## The decoder, its inverse, and the response a command word gets -/

section

namespace Sys2Proof

open Sys2Proof.Machine

/-! ### Fields of a word (rule R70) -/

theorem fieldOp_toNat (w : CommandWord) : (fieldOp w).toNat = w.toNat / 2 ^ 56 := by
  have hw := w.isLt
  simp only [fieldOp, BitVec.extractLsb'_toNat, Nat.shiftRight_eq_div_pow]
  omega

/-- The three fields cover the word. -/
theorem append_fields (w : CommandWord) : fieldOp w ++ fieldA w ++ fieldD w = w := by
  apply BitVec.eq_of_toNat_eq
  rw [toNat_append, toNat_append, fieldOp_toNat]
  simp only [fieldA, fieldD, BitVec.extractLsb'_toNat, Nat.shiftRight_eq_div_pow]
  omega

theorem encode_eq_of_fields {w : CommandWord} {i : Instr} (hop : fieldOp w = i.opcode)
    (ha : fieldA w = i.a) (hd : fieldD w = i.d) : encode i = w := by
  rw [encode, ← hop, ← ha, ← hd, append_fields]

/-! ### The opcode map (rules R75 to R77) -/

theorem opcode_not_unassigned (i : Instr) : ¬ UnassignedOpcode i.opcode.toNat := by
  cases i <;> simp [Instr.opcode, UnassignedOpcode]

/-- The decoder undoes the encoder: the encoded fields are the command's own, and the opcode map
sends each opcode back to its constructor. -/
theorem decode_encode (i : Instr) : decode (encode i) = .ok i := by
  obtain ⟨hop, ha, hd⟩ := Laws.fields_append i.opcode i.a i.d
  simp only [decode, encode, hop, ha, hd]
  cases i <;> rfl

/-- What the decoder can answer: a command that has the word's three fields, or the name of an
unassigned opcode. -/
theorem decode_cases (w : CommandWord) :
    (∃ i : Instr, decode w = .ok i ∧
      fieldOp w = i.opcode ∧ fieldA w = i.a ∧ fieldD w = i.d) ∨
    (decode w = .error (.unassignedOpcode (fieldOp w)) ∧
      UnassignedOpcode (fieldOp w).toNat) := by
  unfold decode
  split
  case h_21 =>
    refine .inr ⟨rfl, ?_⟩
    simp only [imp_false] at *
    bv_omega
  all_goals exact .inl ⟨_, rfl, ‹_›, rfl, rfl⟩

/-- Encoding and decoding are inverse: the words of a command are its encoding alone. -/
theorem decode_eq_ok_iff {w : CommandWord} {i : Instr} : decode w = .ok i ↔ encode i = w := by
  refine ⟨fun h => ?_, fun h => h ▸ decode_encode i⟩
  obtain ⟨j, hj, hop, ha, hd⟩ | ⟨herror, -⟩ := decode_cases w
  · obtain rfl : j = i := Except.ok.inj (hj.symm.trans h)
    exact encode_eq_of_fields hop ha hd
  · cases herror.symm.trans h

theorem decode_eq_error_iff {w : CommandWord} {e : DecodeError} :
    decode w = .error e ↔
      UnassignedOpcode (w.toNat / 2 ^ 56) ∧ e = .unassignedOpcode (fieldOp w) := by
  rw [← fieldOp_toNat]
  obtain ⟨i, hi, hop, -, -⟩ | ⟨herror, hunassigned⟩ := decode_cases w
  · simp [hi, hop, opcode_not_unassigned]
  · simp [herror, hunassigned, eq_comm]

end Sys2Proof

namespace Sys2Proof.Machine

/-! ### Unassigned opcodes (rules R77, R174) -/

theorem refuseUnassigned_of_goodGraph {s : State} (hg : s.gfail = false) :
    s.refuseUnassigned =
      { s with cerr := true, response := some (responseWord .errOpcode 0) } := by
  rw [State.refuseUnassigned, if_neg (Bool.eq_false_iff.1 hg), refuse_opcode]

theorem refuseUnassigned_of_badGraph {s : State} (hg : s.gfail = true) :
    s.refuseUnassigned = s.graphRefused := by
  rw [State.refuseUnassigned, if_pos hg, refuse_graph]

theorem step_of_unassignedOpcode {s : State} {w : CommandWord} {rest : List CommandWord}
    (hc : s.commands = w :: rest) (hop : UnassignedOpcode (w.toNat / 2 ^ 56)) :
    step s = .next ({ s with commands := rest } : State).refuseUnassigned :=
  step_unassigned hc (decode_eq_error_iff.2 ⟨hop, rfl⟩)

/-! ### The form of a response (rules R72, R73) -/

theorem ResponseCode.code_toNat_le (rc : ResponseCode) : rc.code.toNat ≤ 4 := by
  cases rc <;> decide

theorem ResponseCode.code_inj {rc rc' : ResponseCode} (h : rc.code = rc'.code) : rc = rc' :=
  code_toNat_inj (congrArg BitVec.toNat h)

/-- The context holds a response as rule R72 forms it: RDATA is STATUS under ERR_INPUT and 0 under
every other error. -/
def State.Responded (t : State) : Prop :=
  ∃ (rc : ResponseCode) (data : BitVec 32), t.response = some (responseWord rc data) ∧
    (rc ≠ .ok → rc ≠ .errInput → data = 0) ∧ (rc = .errInput → data = t.status)

theorem responded_answered (s : State) (data : BitVec 32) : (s.answered data).Responded :=
  ⟨.ok, data, rfl, fun hok => absurd rfl hok, nofun⟩

theorem responded_refuse (s : State) (e : Refused) : (s.refuse e).Responded := by
  cases e with
  | opcode => exact ⟨.errOpcode, 0, rfl, fun _ _ => rfl, nofun⟩
  | operand => exact ⟨.errOperand, 0, rfl, fun _ _ => rfl, nofun⟩
  | graph => exact ⟨.errGraph, 0, rfl, fun _ _ => rfl, nofun⟩
  | input wrongLength nonFinite =>
    exact ⟨.errInput, _, rfl, fun _ hinput => absurd rfl hinput, fun _ => rfl⟩

theorem Effect.responded {s t : State} {op : BitVec 8} (effect : Effect s op t) :
    t.Responded := by
  cases effect with
  | graphRefused => exact responded_refuse s .graph
  | operandRefused => exact responded_refuse s .operand
  | decRefused => exact responded_refuse s (.input s.wrongLength s.hasNonfinite)
  | _ => exact responded_answered _ _

theorem Effect.keeps_commands {s t : State} {op : BitVec 8} (effect : Effect s op t) :
    t.commands = s.commands := by
  cases effect <;> simp [State.inputRefused]

/-- A step with a word at the port takes that word alone and answers it. -/
theorem step_answers {s t : State} {w : CommandWord} {rest : List CommandWord}
    (hc : s.commands = w :: rest) (hstep : step s = .next t) :
    t.commands = rest ∧ t.Responded := by
  obtain ⟨hidle, -⟩ | ⟨w', rest', hc', hcase⟩ := step_cases hstep
  · cases hc.symm.trans hidle
  · obtain ⟨rfl, rfl⟩ := List.cons.inj (hc.symm.trans hc')
    obtain rfl | rfl | ⟨op, effect⟩ := hcase
    · exact ⟨rfl, responded_refuse _ .graph⟩
    · exact ⟨rfl, responded_refuse { s with commands := rest } .opcode⟩
    · exact ⟨effect.keeps_commands, effect.responded⟩

end Sys2Proof.Machine

end

/-! ## The obligations of `30_encoding.md` -/

section

namespace Sys2Proof.Proofs

open Sys2Proof.Machine

/-- Settles O1. -/
theorem decodeOfEncodeIsTheCommand : Obligations.DecodeOfEncodeIsTheCommand := decode_encode

/-- Settles O2. -/
theorem encodeOfDecodedWordIsTheWord : Obligations.EncodeOfDecodedWordIsTheWord :=
  fun _ _ hdecode => decode_eq_ok_iff.1 hdecode

/-- Settles O3: the decoder's error names the word's unassigned opcode; the count is by
evaluation over the 256 opcodes. -/
theorem decodeRejectsExactlyUnassignedOpcodes :
    Obligations.DecodeRejectsExactlyUnassignedOpcodes := by
  refine ⟨fun w => ?_, rfl⟩
  simp only [decode_eq_error_iff, exists_and_left, exists_eq, and_true]

/-- Settles O7. -/
theorem everyCommandWordGetsOneResponse : Obligations.EveryCommandWordGetsOneResponse := by
  intro s w rest hcommands
  obtain ⟨t, hstep⟩ := Laws.step_next s
  obtain ⟨hrest, rc, data, hresponse, hzero, hstatus⟩ := step_answers hcommands hstep
  refine ⟨t, rc, data, hstep, hrest, hresponse, responseWord_toNat rc data, rc.code_toNat_le,
    fun hok hinput => ?_, fun hinput => ?_⟩
  · exact hzero (fun h => hok (congrArg ResponseCode.code h))
      fun h => hinput (congrArg ResponseCode.code h)
  · exact hstatus (ResponseCode.code_inj hinput)

/-- Settles O4: each word is its command's encoding, so it decodes to that command. -/
theorem workedEncodingsReadAsPrinted : Obligations.WorkedEncodingsReadAsPrinted := by
  simp only [Obligations.WorkedEncodingsReadAsPrinted, decode_eq_ok_iff, and_self]
  decide

/-- Settles O8. -/
theorem unassignedOpcodeIsRefused : Obligations.UnassignedOpcodeIsRefused := by
  intro s w rest hcommands hop
  rw [step_of_unassignedOpcode hcommands hop]
  exact ⟨fun hg => congrArg Host.Outcome.next (refuseUnassigned_of_goodGraph hg),
    fun hg => congrArg Host.Outcome.next (refuseUnassigned_of_badGraph hg)⟩

end Sys2Proof.Proofs

end

/-! ## What the graph commands read, and which operands they take -/

section

namespace Sys2Proof.GraphRom

open Sys2Proof.Machine

variable {g : GraphRom}

/-! ### The address map of the ROM (rules R41, R43) -/

theorem read_nm {c k : Nat} (hc : c < 83) (hk : k < 7) :
    g.read (7 * c + k) = some g.nm[c][k] := by
  have hrow : (7 * c + k) / 7 = c := by omega
  have hplace : (7 * c + k) % 7 = k := by omega
  rw [read, if_pos (by omega), hrow, hplace, nmRow_eq g hc]
  simp [hk]

theorem read_mn {b j : Nat} (hb : b < 174) (hj : j < 3) :
    g.read (0x400 + 3 * b + j) = some g.mn[b][j] := by
  have hrow : (0x400 + 3 * b + j - 0x400) / 3 = b := by omega
  have hplace : (0x400 + 3 * b + j - 0x400) % 3 = j := by omega
  rw [read, if_neg (by omega), if_pos (by omega), hrow, hplace, mnRow_eq g hb]
  simp [hj]

/-! ### Bits and degrees fit in a byte, whether or not GRAPH is well formed -/

theorem lt_byte_of_mem_bitsOf {b c : Nat} (h : b ∈ g.bitsOf c) : b < 2 ^ 8 := by
  obtain ⟨v, -, rfl⟩ := List.mem_map.1 h
  exact (Nat.sub_le _ _).trans_lt v.isLt

theorem deg_le_seven {c : Nat} (hc : c < 83) : g.deg c ≤ 7 := by
  rw [deg, bitsOf_eq_map_filter hc, List.length_map]
  exact (List.length_filter_le _ _).trans_eq g.nm[c].length_toList

end Sys2Proof.GraphRom

namespace Sys2Proof.Machine

/-! ### GCHK past the common checks (rule R90) -/

theorem exec_gchk (s : State) :
    exec (.gchk 0 0) s =
      .next ({ s with gfail := !s.graph.wf }.answered (zextBit (!s.graph.wf))) :=
  congrArg Host.Outcome.next (command_run (.inr rfl) rfl rfl)

/-! ### ROM addresses as operands (rules R41, R93) -/

theorem romAddressLegal_iff (a : AField) :
    romAddressLegal a = true ↔ a.toNat ≤ 0x244 ∨ (0x400 ≤ a.toNat ∧ a.toNat ≤ 0x609) := by
  simp [romAddressLegal, romMapped]

/-- What ROMRD does at a mapped address, also while GFAIL = 1 (rule R93). -/
theorem exec_romrd_of_read {a : AField} (s : State) {v : BitVec 8}
    (hlegal : romAddressLegal a = true) (hread : s.graph.read a.toNat = some v) :
    exec (.romrd a 0) s = .next (s.answered (BitVec.ofNat 32 v.toNat)) := by
  have hrun : exec (.romrd a 0) s =
      .next (s.answered (((s.graph.read a.toNat).getD 0).setWidth 32)) :=
    congrArg Host.Outcome.next (command_run (.inr rfl) rfl hlegal)
  rw [hrun, hread, BitVec.ofNat_toNat, Option.getD_some]

/-! ### The sub-fields and the bytes of BITOF (rules R54, R92) -/

theorem checkIndex_eq (a : AField) : checkIndex a = a.toNat % 2 ^ 8 := by
  simp [checkIndex, BitVec.extractLsb'_toNat]

theorem checkHalf_iff (a : AField) : checkHalf a = true ↔ ¬ a.toNat / 2 ^ 8 % 2 = 0 := by
  rw [checkHalf, BitVec.getLsbD, Nat.testBit_eq_decide_div_mod_eq, decide_eq_true_eq]
  omega

theorem checkIndexLegal_iff (a : AField) :
    checkIndexLegal a = true ↔ a.toNat / 2 ^ 9 = 0 ∧ a.toNat % 2 ^ 8 ≤ 82 := by
  have hunused : a.extractLsb' 9 15 = 0#15 ↔ a.toNat / 2 ^ 9 = 0 := by
    rw [← BitVec.toNat_inj, BitVec.extractLsb'_toNat, Nat.shiftRight_eq_div_pow,
      BitVec.toNat_zero]
    omega
  simp only [checkIndexLegal, Bool.and_eq_true, beq_iff_eq, decide_eq_true_eq, hunused,
    checkIndex_eq]

theorem bitByte_toNat (g : GraphRom) (c k : Nat) :
    (bitByte g c k).toNat = if k < g.deg c then (g.bitsOf c).getD k 0 else 0xFF := by
  rw [bitByte, BitVec.toNat_ofNat]
  split
  next hk =>
    rw [List.getD_eq_getElem _ _ hk, List.getD_eq_getElem _ _ hk]
    exact Nat.mod_eq_of_lt (GraphRom.lt_byte_of_mem_bitsOf (List.getElem_mem hk))
  next hk => rw [List.getD_eq_default _ _ (Nat.le_of_not_lt hk)]

/-- The word BITOF answers, as the number its four bytes make (rule R92). -/
theorem bitofWord_toNat (g : GraphRom) {c : Nat} (hc : c < 83) (half : Bool) :
    (bitofWord g c half).toNat =
      if half then
        (bitByte g c 4).toNat + 2 ^ 8 * (bitByte g c 5).toNat + 2 ^ 16 * (bitByte g c 6).toNat +
          2 ^ 24 * g.deg c
      else
        (bitByte g c 0).toNat + 2 ^ 8 * (bitByte g c 1).toNat + 2 ^ 16 * (bitByte g c 2).toNat +
          2 ^ 24 * (bitByte g c 3).toNat := by
  have hdeg : g.deg c ≤ 7 := GraphRom.deg_le_seven hc
  cases half with
  | false =>
    simp only [bitofWord, Bool.false_eq_true, if_false, toNat_append]
    omega
  | true =>
    simp only [bitofWord, if_true, toNat_append, BitVec.toNat_ofNat]
    omega

end Sys2Proof.Machine

end

/-! ## The obligations of `40_graph_access.md` -/

section

namespace Sys2Proof.Proofs

open Sys2Proof.Machine

/-- Settles O35. -/
theorem gchkRunsTheGraphCheck : Obligations.GchkRunsTheGraphCheck := by
  refine fun a d s => ⟨fun hbad => ?_, ?_, ?_⟩
  · exact congrArg Host.Outcome.next
      (command_operandRefused (.inr rfl) (.inl (unusedZero_z_eq_false hbad)))
  · rintro rfl rfl hwf
    rw [exec_gchk, hwf]
    rfl
  · rintro rfl rfl hwf
    rw [exec_gchk, hwf]
    rfl

/-- Settles O50. -/
theorem bitofReadsTheBitsOfACheck : Obligations.BitofReadsTheBitsOfACheck := by
  refine fun a d s e he => ⟨fun hg => ?_, fun hg hbad => ?_, ?_⟩
  · exact congrArg Host.Outcome.next (command_graphRefused hg)
  · refine congrArg Host.Outcome.next (command_operandRefused (.inl hg) ?_)
    refine hbad.imp unusedZero_a_eq_false fun hillegal => ?_
    rw [Bool.eq_false_iff, ne_eq, checkIndexLegal_iff]
    omega
  · rintro hg rfl hunused hc
    refine ⟨_, ?_, congrArg Host.Outcome.next
      (command_run (.inl hg) rfl ((checkIndexLegal_iff a).2 ⟨hunused, hc⟩))⟩
    rw [checkIndex_eq, bitofWord_toNat s.graph (Nat.lt_succ_of_le hc)]
    simp only [bitByte_toNat, ← he, checkHalf_iff, ite_not]

/-- Settles O51. -/
theorem romrdReadsARawEntry : Obligations.RomrdReadsARawEntry := by
  refine fun a d s => ⟨fun hbad => ?_, ?_, ?_⟩
  · refine congrArg Host.Outcome.next (command_operandRefused (.inr rfl) ?_)
    refine hbad.imp unusedZero_a_eq_false fun hunmapped => ?_
    rw [Bool.eq_false_iff, ne_eq, romAddressLegal_iff]
    omega
  · rintro c k hc hk rfl ha
    refine exec_romrd_of_read s ((romAddressLegal_iff a).2 (by omega)) ?_
    rw [ha, GraphRom.read_nm hc hk]
  · rintro b j hb hj rfl ha
    refine exec_romrd_of_read s ((romAddressLegal_iff a).2 (by omega)) ?_
    rw [ha, GraphRom.read_mn hb hj]

end Sys2Proof.Proofs

end

/-! ## Quantisation, the messages of one check, and one pass element by element -/

section

namespace Sys2Proof.Machine

/-! ### Quantisation in exact arithmetic (rules R101, R102) -/

theorem floatExponent_eq (w : BitVec 32) : floatExponent w = w.toNat / 2 ^ 23 % 256 := by
  simp [floatExponent, BitVec.extractLsb'_toNat, Nat.shiftRight_eq_div_pow]

theorem floatFraction_eq (w : BitVec 32) : floatFraction w = w.toNat % 2 ^ 23 := by
  simp [floatFraction, BitVec.extractLsb'_toNat]

theorem floatSign_iff (w : BitVec 32) : floatSign w = true ↔ w.toNat / 2 ^ 31 = 1 := by
  rw [floatSign, BitVec.getLsbD, Nat.testBit_eq_decide_div_mod_eq, decide_eq_true_eq]
  omega

/-- The magnitude by the size of the exponent: LMAX from 142 on, a truncating division below. -/
theorem quantMagnitude_eq {w : BitVec 32} {mant e1 : Nat}
    (hmant : mant = if floatExponent w = 0 then floatFraction w else 2 ^ 23 + floatFraction w)
    (he1 : e1 = if floatExponent w = 0 then 1 else floatExponent w) :
    quantMagnitude w = if 142 ≤ e1 then lmax else min (mant / 2 ^ (142 - e1)) lmax := by
  rw [hmant, he1]
  rfl

/-- The value in units of 2^−8 as one shift of the mantissa. -/
theorem scaled_value_eq (mant e1 : Nat) :
    (mant : ℚ) * (2 : ℚ) ^ ((e1 : ℤ) - 150) * 256 = mant * (2 : ℚ) ^ ((e1 : ℤ) - 142) := by
  have hunits : (256 : ℚ) = (2 : ℚ) ^ (8 : ℤ) := by norm_num
  rw [hunits, mul_assoc, ← zpow_add₀ two_ne_zero]
  congr 2
  omega

/-- A shift to the right, rounded down, is the truncating division. -/
theorem floor_shift_right (mant : Nat) {e1 : Nat} (h : e1 < 142) :
    ⌊(mant : ℚ) * (2 : ℚ) ^ ((e1 : ℤ) - 142)⌋ = ((mant / 2 ^ (142 - e1) : Nat) : ℤ) := by
  have hshift : (2 : ℚ) ^ ((e1 : ℤ) - 142) = ((2 ^ (142 - e1) : Nat) : ℚ)⁻¹ := by
    have hexp : (e1 : ℤ) - 142 = -((142 - e1 : Nat) : ℤ) := by omega
    rw [hexp, zpow_neg, zpow_natCast, Nat.cast_pow, Nat.cast_ofNat]
  rw [hshift, ← div_eq_mul_inv]
  exact Rat.floor_intCast_div_natCast mant _

/-- A shift to the left rounds nothing away, so a full mantissa stays above LMAX. -/
theorem le_floor_shift_left {mant e1 : Nat} (h : 142 ≤ e1) :
    (mant : ℤ) ≤ ⌊(mant : ℚ) * (2 : ℚ) ^ ((e1 : ℤ) - 142)⌋ := by
  rw [Int.le_floor, Int.cast_natCast]
  exact le_mul_of_one_le_right (Nat.cast_nonneg mant) (one_le_zpow₀ one_le_two (by omega))

theorem min_floor_eq_quantMagnitude {w : BitVec 32} {mant e1 : Nat}
    (hmant : mant = if floatExponent w = 0 then floatFraction w else 2 ^ 23 + floatFraction w)
    (he1 : e1 = if floatExponent w = 0 then 1 else floatExponent w) :
    min ⌊(mant : ℚ) * (2 : ℚ) ^ ((e1 : ℤ) - 150) * 256⌋ 32767 = (quantMagnitude w : ℤ) := by
  rw [scaled_value_eq, quantMagnitude_eq hmant he1]
  by_cases hlarge : 142 ≤ e1
  · have hnormal : floatExponent w ≠ 0 := fun hzero => by
      rw [if_pos hzero] at he1
      omega
    have hfull : 2 ^ 23 ≤ mant := by
      rw [hmant, if_neg hnormal]
      exact Nat.le_add_right _ _
    have hfloor := le_floor_shift_left (mant := mant) hlarge
    rw [if_pos hlarge, lmax, min_eq_right (by omega)]
    rfl
  · rw [if_neg hlarge, floor_shift_right mant (Nat.lt_of_not_le hlarge), lmax, Nat.cast_min]
    rfl

/-! ### Signs and magnitudes of the messages of a check (rule R108) -/

theorem sgn_mul_self (x : Int) : sgn x * sgn x = 1 := by
  unfold sgn
  split <;> rfl

theorem sgn_mul_natAbs (x : Int) : sgn x * (x.natAbs : Int) = x := by
  unfold sgn
  split <;> omega

theorem signProduct_eq_prod (qs : List Int) : signProduct qs = (qs.map sgn).prod := by
  rw [List.prod_eq_foldr, List.foldr_map]
  rfl

/-- A sign is its own inverse: the product of the other signs is the whole product times the sign
left out. -/
theorem signProduct_eraseIdx (qs : List Int) {k : Nat} (hk : k < qs.length) :
    signProduct (qs.eraseIdx k) = sgn qs[k] * signProduct qs := by
  have hprod := List.CommMonoid.mul_prod_eraseIdx (l := qs.map sgn) (i := k) (by simpa using hk)
  rw [List.getElem_map, List.eraseIdx_map, ← signProduct_eq_prod, ← signProduct_eq_prod] at hprod
  rw [← hprod, ← mul_assoc, sgn_mul_self, one_mul]

/-- `minMagnitude` is a magnitude of the list and a lower bound of all. -/
theorem minMagnitude_spec {qs : List Int} (h : qs ≠ []) :
    (∃ q ∈ qs, q.natAbs = minMagnitude qs) ∧ ∀ q ∈ qs, minMagnitude qs ≤ q.natAbs := by
  unfold minMagnitude
  cases hmin : (qs.map Int.natAbs).min? with
  | none => exact absurd (by simpa using hmin) h
  | some m =>
    obtain ⟨hmem, hle⟩ := List.min?_eq_some_iff.1 hmin
    exact ⟨List.mem_map.1 hmem, fun q hq => hle _ (List.mem_map_of_mem hq)⟩

theorem minMagnitude_of_equal {qs : List Int} {m : Nat} (h : qs ≠ [])
    (heq : ∀ q ∈ qs, q.natAbs = m) : minMagnitude qs = m := by
  obtain ⟨⟨q, hq, hmin⟩, -⟩ := minMagnitude_spec h
  rw [← hmin, heq q hq]

/-! ### The message a check sends (rule R108) -/

/-- A check of two or more positions has another position than `k`. -/
theorem eraseIdx_ne_nil {qs : List Int} {k : Nat} (htwo : 2 ≤ qs.length) (hk : k < qs.length) :
    qs.eraseIdx k ≠ [] := by
  apply List.ne_nil_of_length_pos
  rw [List.length_eraseIdx_of_lt hk]
  omega

/-- Where two or more messages of one magnitude agree with their check, each position is sent its
own message back. -/
theorem checkMessage_of_equal {qs : List Int} {m k : Nat} (htwo : 2 ≤ qs.length)
    (heq : ∀ q ∈ qs, q.natAbs = m) (hsign : signProduct qs = 1) (hk : k < qs.length) :
    checkMessage qs k = qs[k] := by
  have hne := eraseIdx_ne_nil htwo hk
  rw [checkMessage, signProduct_eraseIdx qs hk, hsign, mul_one,
    minMagnitude_of_equal hne fun q hq => heq q (List.mem_of_mem_eraseIdx hq),
    ← heq _ (List.getElem_mem hk), sgn_mul_natAbs]

theorem checkMessage_of_zeros {qs : List Int} (h : ∀ q ∈ qs, q = 0) (k : Nat) :
    checkMessage qs k = 0 := by
  have hmin : minMagnitude (qs.eraseIdx k) = 0 := by
    by_cases hne : qs.eraseIdx k = []
    · rw [hne]
      rfl
    · exact minMagnitude_of_equal hne fun q hq =>
        Int.natAbs_eq_zero.2 (h q (List.mem_of_mem_eraseIdx hq))
  rw [checkMessage, hmin, Nat.cast_zero, mul_zero]

section positions

variable {qs : List Int} {q : Nat → Int} (hq : ∀ n, (h : n < qs.length) → q n = qs[n])
include hq

theorem mem_eraseIdx_iff_position {k : Nat} {x : Int} :
    x ∈ qs.eraseIdx k ↔ ∃ n ∈ (Finset.range qs.length).erase k, q n = x := by
  simp only [List.mem_eraseIdx_iff_getElem, Finset.mem_erase, Finset.mem_range]
  constructor
  · rintro ⟨n, hn, hne, rfl⟩
    exact ⟨n, ⟨hne, hn⟩, hq n hn⟩
  · rintro ⟨n, ⟨hne, hn⟩, rfl⟩
    exact ⟨n, hn, hne, (hq n hn).symm⟩

theorem signProduct_eq_prod_positions :
    signProduct qs = ∏ n ∈ Finset.range qs.length, sgn (q n) := by
  rw [signProduct_eq_prod, ← Fin.prod_univ_fun_getElem, Finset.prod_range]
  exact Finset.prod_congr rfl fun n _ => by rw [hq n n.isLt]

theorem signProduct_eraseIdx_eq_prod {k : Nat} (hk : k < qs.length) :
    signProduct (qs.eraseIdx k) = ∏ n ∈ (Finset.range qs.length).erase k, sgn (q n) := by
  rw [signProduct_eraseIdx qs hk, signProduct_eq_prod_positions hq,
    ← Finset.mul_prod_erase _ _ (Finset.mem_range.2 hk), ← hq k hk, ← mul_assoc, sgn_mul_self,
    one_mul]

/-- The message as rule R108 writes it, over the other positions of the check. -/
theorem checkMessage_eq_minSum {k : Nat} (htwo : 2 ≤ qs.length) (hk : k < qs.length) :
    ∃ m : Nat, (∃ n ∈ (Finset.range qs.length).erase k, (q n).natAbs = m) ∧
      (∀ n ∈ (Finset.range qs.length).erase k, m ≤ (q n).natAbs) ∧
      checkMessage qs k = (∏ n ∈ (Finset.range qs.length).erase k, sgn (q n)) * m := by
  obtain ⟨⟨x, hx, hmin⟩, hle⟩ := minMagnitude_spec (eraseIdx_ne_nil htwo hk)
  obtain ⟨n, hn, rfl⟩ := (mem_eraseIdx_iff_position hq).1 hx
  exact ⟨_, ⟨n, hn, hmin⟩, fun n hn => hle _ ((mem_eraseIdx_iff_position hq).2 ⟨n, hn, rfl⟩),
    by rw [checkMessage, signProduct_eraseIdx_eq_prod hq hk]⟩

end positions

end Sys2Proof.Machine

namespace Sys2Proof.GraphRom

/-- A bit of a check has a message place that belongs to that check (rule R50). -/
theorem place_of_mem_bitsOf {g : GraphRom} (hw : g.wf = true) {b c : Nat} (hc : c < 83)
    (hbit : b ∈ g.bitsOf c) :
    b < 174 ∧ g.slot b c < 3 ∧ (g.checksOf b)[g.slot b c]? = some c := by
  have hb : b < 174 := wf_bitsOf_lt hw hc hbit
  have hmem : c ∈ g.checksOf b := (mem_checksOf_iff_mem_bitsOf hw hb hc).2 hbit
  exact ⟨hb, slot_lt hb hmem, (checksOf_getElem?_iff_slot hw hb hmem).2 rfl⟩

end Sys2Proof.GraphRom

namespace Sys2Proof.Machine

/-! ### C2B, B2C and HARD element by element (rules R108 to R110) -/

theorem length_checkInputs (g : GraphRom) (q : MessageFile) (c : Nat) :
    (checkInputs g q c).length = g.deg c := List.length_map _

theorem checkInputs_getElem {g : GraphRom} {q : MessageFile} {c n : Nat}
    (hn : n < (checkInputs g q c).length) :
    (checkInputs g q c)[n] =
      messageAt q ((g.bitsOf c).getD n 0) (g.slot ((g.bitsOf c).getD n 0) c) := by
  have hbits : n < (g.bitsOf c).length := hn.trans_eq (length_checkInputs g q c)
  simp [checkInputs, hbits]

theorem two_le_length_checkInputs {g : GraphRom} (hw : g.wf = true) (q : MessageFile) {c : Nat}
    (hc : c < 83) : 2 ≤ (checkInputs g q c).length := by
  have hdeg := GraphRom.wf_deg hw hc
  rw [length_checkInputs]
  omega

/-- On a well-formed GRAPH the message place of position `k` of check `c` gets what `c` sends to
that position. -/
theorem edgeMessage_slot {g : GraphRom} (hw : g.wf = true) (q : MessageFile) {b c k : Nat}
    (hc : c < 83) (hk : (g.bitsOf c)[k]? = some b) :
    edgeMessage g q b (g.slot b c) = checkMessage (checkInputs g q c) k := by
  have hbit : b ∈ g.bitsOf c := List.mem_of_getElem? hk
  obtain ⟨-, -, hcheck⟩ := GraphRom.place_of_mem_bitsOf hw hc hbit
  have hposition : k = (g.bitsOf c).idxOf b :=
    (GraphRom.getElem?_eq_some_iff_eq_idxOf (GraphRom.nodup_bitsOf hw hc) hbit).1 hk
  rw [edgeMessage, List.getD_eq_getElem?_getD, hcheck, hposition, Option.getD_some]

theorem c2b_messageAt (s : State) {b j : Nat} (hb : b < 174) (hj : j < 3) :
    messageAt s.c2b.r b j = edgeMessage s.graph s.q b j := by
  rw [messageAt_eq_getElem _ hb hj]
  simp [State.c2b]

theorem initContext_l (s : State) {b : Nat} (hb : b < 174) :
    s.initContext.l[b] = quant s.llrBuf[b] := by simp [State.initContext]

theorem initContext_tot (s : State) {b : Nat} (hb : b < 174) :
    s.initContext.tot[b] = quant s.llrBuf[b] := by simp [State.initContext]

theorem initContext_q (s : State) {b j : Nat} (hb : b < 174) (hj : j < 3) :
    s.initContext.q[b][j] = quant s.llrBuf[b] := by simp [State.initContext]

theorem b2c_tot (s : State) {b : Nat} (hb : b < 174) :
    s.b2c.tot[b] = s.l[b] + s.r[b][0] + s.r[b][1] + s.r[b][2] := by
  simp [State.b2c, totalBelief, bitAt_eq_getElem, messageAt_eq_getElem]

theorem b2c_q (s : State) {b j : Nat} (hb : b < 174) (hj : j < 3) :
    s.b2c.q[b][j] = sat (s.b2c.tot[b] - s.r[b][j]) := by
  simp [State.b2c, messageAt_eq_getElem]

theorem hard_bit_iff (s : State) {b : Nat} (hb : b < 174) :
    s.hard.cw.getLsbD b = true ↔ s.tot[b] ≤ 0 := by
  rw [State.hard, getLsbD_bitSeq, bitAt_eq_getElem _ hb]
  simp [hb]

theorem iteration_q_eq_sat (x : State) {b j : Nat} (hb : b < 174) (hj : j < 3) :
    x.iteration.q[b][j] = sat (x.iteration.tot[b] - x.iteration.r[b][j]) := by
  simpa [State.iteration] using b2c_q ({ x with iter := x.iter + 1#8 } : State).c2b hb hj

theorem iteration_bit_iff (x : State) {b : Nat} (hb : b < 174) :
    x.iteration.cw.getLsbD b = true ↔ x.iteration.tot[b] ≤ 0 := by
  simpa [State.iteration] using
    hard_bit_iff ({ x with iter := x.iter + 1#8 } : State).c2b.b2c hb

end Sys2Proof.Machine

end

/-! ## LLRP, SETIT and DEC past the common checks; what one attempt leaves -/

section

namespace Sys2Proof.Machine

/-! ### The operands of LLRP and SETIT (rules R71, R74) -/

theorem unusedZero_d_eq_false {a : AField} {d : DField} (h : a ≠ 0) :
    Format.d.unusedZero a d = false := beq_eq_false_iff_ne.2 h

theorem budgetLegal_iff (d : DField) :
    budgetLegal d = true ↔ 1 ≤ d.toNat ∧ d.toNat ≤ 255 := by
  simp only [budgetLegal, Bool.and_eq_true, beq_iff_eq, bne_iff_ne, ne_eq, ← BitVec.toNat_inj,
    BitVec.extractLsb'_toNat, Nat.shiftRight_eq_div_pow, BitVec.toNat_zero]
  omega

/-- The response is no part of STATUS (rule R29). -/
@[simp] theorem answered_status (s : State) (data : BitVec 32) :
    (s.answered data).status = s.status := rfl

/-! ### DEC, refused by the common checks or run (rules R104, R172) -/

theorem exec_dec_cases (a : AField) (d : DField) (s : State) :
    (s.gfail = true ∧ exec (.dec a d) s = .next s.graphRefused) ∨
    (s.gfail = false ∧ (a ≠ 0 ∨ d ≠ 0) ∧ exec (.dec a d) s = .next s.operandRefused) ∨
    (s.gfail = false ∧ a = 0 ∧ d = 0) := by
  cases hg : s.gfail with
  | true => exact .inl ⟨rfl, congrArg Host.Outcome.next (command_graphRefused hg)⟩
  | false =>
    by_cases hbad : a ≠ 0 ∨ d ≠ 0
    · exact .inr (.inl ⟨rfl, hbad, congrArg Host.Outcome.next
        (command_operandRefused (.inl hg) (.inl (unusedZero_z_eq_false hbad)))⟩)
    · push Not at hbad
      exact .inr (.inr ⟨rfl, hbad⟩)

/-! ### DEC repeated (rule R104 corner case a) -/

/-- DEC leaves alone all that it reads, and a response changes none of it. -/
theorem sameInput_respond_decResult (s : State) (rc : ResponseCode) (data : BitVec 32) :
    s.SameInput (s.decResult.respond rc data) := by
  unfold State.decResult
  split
  · exact ⟨rfl, rfl, rfl, rfl, rfl⟩
  · constructor <;> simp

/-- Run again on what it left, DEC leaves the same. -/
theorem decResult_respond_decResult (s : State) (rc : ResponseCode) (data : BitVec 32) :
    (s.decResult.respond rc data).decResult = s.decResult.respond rc data :=
  (sameInput_respond_decResult s rc data).decResult

theorem decCode_respond_decResult (s : State) (rc : ResponseCode) (data : BitVec 32) :
    (s.decResult.respond rc data).decCode = s.decCode :=
  (sameInput_respond_decResult s rc data).decCode

/-! ### Another budget (rules R113, R189)

MAXITER is read where the loop may end and nowhere else, so the passes are the same under any
budget. -/

/-- `s` with `m` in MAXITER. -/
def State.withBudget (s : State) (m : BitVec 8) : State := { s with maxIter := m }

theorem withBudget_c2b (x : State) (m : BitVec 8) :
    (x.withBudget m).c2b = x.c2b.withBudget m := by
  unfold State.c2b State.withBudget
  rfl

theorem withBudget_b2c (x : State) (m : BitVec 8) :
    (x.withBudget m).b2c = x.b2c.withBudget m := by
  unfold State.b2c State.withBudget
  rfl

theorem withBudget_hard (x : State) (m : BitVec 8) :
    (x.withBudget m).hard = x.hard.withBudget m := by
  unfold State.hard State.withBudget
  congr

theorem withBudget_synd (x : State) (m : BitVec 8) :
    (x.withBudget m).synd = x.synd.withBudget m := by
  unfold State.synd State.withBudget
  rfl

theorem withBudget_iteration (x : State) (m : BitVec 8) :
    (x.withBudget m).iteration = x.iteration.withBudget m := by
  have hiter : { x.withBudget m with iter := (x.withBudget m).iter + 1#8 } =
      ({ x with iter := x.iter + 1#8 } : State).withBudget m := rfl
  rw [State.iteration, hiter, withBudget_c2b, withBudget_b2c, withBudget_hard, withBudget_synd,
    ← State.iteration]

theorem withBudget_payv (x : State) (m : BitVec 8) :
    (x.withBudget m).payv = x.payv.withBudget m := by
  by_cases h : checksumBy x.checksumUnit (payloadOf x.cw) = checksumOf x.cw
  · rw [payv_of_match h, payv_of_match (s := x.withBudget m) h]
    rfl
  · rw [payv_of_mismatch h, payv_of_mismatch (s := x.withBudget m) h]
    rfl

theorem withBudget_pass (s : State) (m : BitVec 8) (k : Nat) :
    (s.withBudget m).pass k = (s.pass k).withBudget m := by
  induction k with
  | zero =>
    unfold State.pass State.attemptStart State.initContext State.withBudget
    rfl
  | succ k ih => rw [State.pass_succ, State.pass_succ, ih, withBudget_iteration]

/-- An attempt that ended with every check satisfied ends at the same pass under a larger budget. -/
theorem State.EndsAt.withBudget {s : State} {k : Nat} {m : BitVec 8} (hk : s.EndsAt k)
    (budget : 1 ≤ s.maxIter.toNat) (hle : s.maxIter.toNat ≤ m.toNat)
    (hsok : (s.pass k).sok = true) : (s.withBudget m).EndsAt k := by
  have hbound := hk.le_budget budget
  have hlt := m.isLt
  obtain ⟨one_le, first, -⟩ := hk
  refine ⟨one_le, fun j hj hjk => ?_, ?_⟩
  · have hiter : (s.pass j).iter ≠ m := by
      rw [pass_iter]
      intro heq
      have hnat := congrArg BitVec.toNat heq
      rw [BitVec.toNat_ofNat, Nat.mod_eq_of_lt (by omega)] at hnat
      omega
    rw [withBudget_pass]
    rintro (hsok | heq)
    · exact first j hj hjk (.inl hsok)
    · exact hiter heq
  · rw [withBudget_pass]
    exact .inl hsok

theorem runAttempt_withBudget {s : State} {m : BitVec 8} (budget : 1 ≤ s.maxIter.toNat)
    (hle : s.maxIter.toNat ≤ m.toNat) (hres : s.runAttempt.res = .converged) :
    (s.withBudget m).runAttempt = s.runAttempt.withBudget m := by
  obtain ⟨k, -, hk, heq⟩ := runAttempt_eq s
  obtain ⟨k', -, hk', heq'⟩ := runAttempt_eq (s.withBudget m)
  obtain ⟨hsok, hresult⟩ | ⟨-, hresult⟩ := attemptResult_cases (s.pass k)
  · obtain rfl : k = k' := (hk.withBudget budget hle hsok).unique hk'
    rw [heq', withBudget_pass, heq, hresult, ← withBudget_payv, State.attemptResult,
      if_pos (show ((s.pass k).withBudget m).sok = true from hsok)]
    rfl
  · rw [heq, hresult] at hres
    simp at hres

theorem decResult_withBudget {s : State} {m : BitVec 8} (budget : 1 ≤ s.maxIter.toNat)
    (hle : s.maxIter.toNat ≤ m.toNat) (hres : s.decResult.res = .converged) :
    (s.withBudget m).decResult = s.decResult.withBudget m := by
  have hbad : ((s.withBudget m).wrongLength || (s.withBudget m).hasNonfinite) =
      (s.wrongLength || s.hasNonfinite) := rfl
  rw [State.decResult] at hres ⊢
  rw [State.decResult, hbad]
  split at hres
  next bad =>
    rw [if_pos bad]
    exact absurd hres nofun
  next good =>
    rw [if_neg good, if_neg good]
    exact runAttempt_withBudget budget hle hres

/-! ### The two ends of an attempt (rules R104, R113) -/

theorem pass_graph (s : State) (k : Nat) : (s.pass k).graph = s.graph :=
  (pass_keeps State.graph (by simp) s k).trans (by simp [State.attemptStart])

theorem pass_checksumUnit (s : State) (k : Nat) : (s.pass k).checksumUnit = s.checksumUnit :=
  (pass_keeps State.checksumUnit (by simp) s k).trans (by simp [State.attemptStart])

theorem pass_pld (s : State) (k : Nat) : (s.pass k).pld = 0 :=
  (pass_keeps State.pld (by simp) s k).trans (by simp [State.attemptStart])

namespace State.EndsAt

variable {s : State} {k : Nat} (hk : s.EndsAt k)
include hk

theorem runAttempt : s.runAttempt = (s.pass k).attemptResult := by
  obtain ⟨k', -, hk', heq⟩ := runAttempt_eq s
  obtain rfl : k = k' := hk.unique hk'
  exact heq

theorem runAttempt_of_sok (hsok : (s.pass k).sok = true) :
    s.runAttempt = (s.pass k).payv.withResult .converged := by
  rw [hk.runAttempt, State.attemptResult, if_pos hsok, withResult_payv]

theorem runAttempt_of_not_sok (hsok : (s.pass k).sok = false) :
    s.runAttempt = (s.pass k).withResult .maxIterationsExceeded := by
  rw [hk.runAttempt, State.attemptResult, if_neg (by simp [hsok])]

theorem sok_iff : (s.pass k).sok = true ↔ IsCodeword s.graph (s.pass k).cw := by
  rw [← pass_graph s k, hk.eq_iteration]
  exact iteration_sok_iff _

theorem syn_eq : (s.pass k).syn = syndromeOf s.graph (s.pass k).cw := by
  rw [← pass_graph s k, hk.eq_iteration]
  exact iteration_syn _

theorem runAttempt_iter : s.runAttempt.iter = (s.pass k).iter := by
  rw [hk.runAttempt]
  exact attemptResult_keeps State.iter (by simp) (by simp) _

end State.EndsAt

theorem runAttempt_synv (s : State) : s.runAttempt.synv = true := by
  obtain ⟨k, -, hk, heq⟩ := runAttempt_eq s
  rw [heq, attemptResult_keeps State.synv (by simp) (by simp), hk.eq_iteration,
    State.iteration_synv]

theorem runAttempt_causes (s : State) :
    s.runAttempt.iil = false ∧ s.runAttempt.iin = false := by
  constructor
  · rw [runAttempt_keeps State.iil (by simp) (by simp) (by simp)]
    simp [State.attemptStart]
  · rw [runAttempt_keeps State.iin (by simp) (by simp) (by simp)]
    simp [State.attemptStart]

theorem runAttempt_outcome (s : State) :
    (s.runAttempt.res = .converged ∧ s.runAttempt.sok = true ∧
      IsCodeword s.graph s.runAttempt.cw) ∨
    (s.runAttempt.res = .maxIterationsExceeded ∧ s.runAttempt.sok = false ∧
      ¬IsCodeword s.graph s.runAttempt.cw ∧ s.runAttempt.iter = s.maxIter) := by
  obtain ⟨k, -, hk, -⟩ := runAttempt_eq s
  cases hsok : (s.pass k).sok with
  | true =>
    rw [hk.runAttempt_of_sok hsok]
    exact .inl ⟨rfl, by simpa using hsok, by simpa using hk.sok_iff.1 hsok⟩
  | false =>
    rw [hk.runAttempt_of_not_sok hsok]
    exact .inr ⟨rfl, hsok, fun hcw => by simp [hk.sok_iff.2 hcw] at hsok,
      (hk.iter_eq_maxIter hsok).trans (pass_maxIter s k)⟩

theorem runAttempt_iter_bounds {s : State} (budget : 1 ≤ s.maxIter.toNat) :
    1 ≤ s.runAttempt.iter.toNat ∧ s.runAttempt.iter.toNat ≤ s.maxIter.toNat := by
  obtain ⟨k, -, hk, -⟩ := runAttempt_eq s
  rw [hk.runAttempt_iter, hk.iter_toNat budget]
  exact ⟨hk.1, hk.le_budget budget⟩

/-- A sequence of contexts that starts fresh and goes on by one pass is the passes of the attempt
(rule R111). -/
theorem eq_pass_of_succ {s : State} {x : Nat → State} (zero : x 0 = s.attemptStart)
    (succ : ∀ k, x (k + 1) = (x k).iteration) (k : Nat) : x k = s.pass k := by
  induction k with
  | zero => exact zero
  | succ k ih => rw [succ, ih, State.pass_succ]

/-! ### The first context of an attempt (rule R106) -/

theorem attemptStart_l (s : State) {b : Nat} (hb : b < 174) :
    s.attemptStart.l[b] = quant s.llrBuf[b] := initContext_l _ hb

theorem attemptStart_q (s : State) {b j : Nat} (hb : b < 174) (hj : j < 3) :
    s.attemptStart.q[b][j] = quant s.llrBuf[b] := initContext_q _ hb hj

/-! ### No information (rule R115 d) -/

theorem messageAt_of_zeros {q : MessageFile}
    (h : ∀ b j, (hb : b < 174) → (hj : j < 3) → q[b][j] = 0) (b j : Nat) :
    messageAt q b j = 0 := by
  by_cases hb : b < 174
  · by_cases hj : j < 3
    · rw [messageAt_eq_getElem q hb hj, h b j hb hj]
    · simp [messageAt, hb, hj]
  · simp [messageAt, hb]

/-- Nothing is known of any bit: the channel and all bit messages are 0. -/
structure State.NoInformation (x : State) : Prop where
  l : ∀ b, (hb : b < 174) → x.l[b] = 0
  q : ∀ b j, (hb : b < 174) → (hj : j < 3) → x.q[b][j] = 0

namespace State.NoInformation

variable {x : State} (h : x.NoInformation)
include h

theorem iteration_r {b j : Nat} (hb : b < 174) (hj : j < 3) : x.iteration.r[b][j] = 0 := by
  rw [Machine.iteration_r hb hj]
  refine checkMessage_of_zeros (fun q hq => ?_) _
  obtain ⟨b', -, rfl⟩ := List.mem_map.1 hq
  exact messageAt_of_zeros h.q _ _

theorem iteration_tot {b : Nat} (hb : b < 174) : x.iteration.tot[b] = 0 := by
  have hl : x.iteration.l[b] = 0 := by simpa using h.l b hb
  rw [Machine.iteration_tot hb, hl, h.iteration_r hb, h.iteration_r hb, h.iteration_r hb]
  rfl

theorem iteration : x.iteration.NoInformation where
  l := by simpa using h.l
  q b j hb hj := by
    rw [iteration_q_eq_sat x hb hj, h.iteration_tot hb, h.iteration_r hb hj]
    rfl

/-- A total of 0 gives bit 1 (rule R110). -/
theorem iteration_cw : x.iteration.cw = BitVec.allOnes 174 := by
  apply BitVec.eq_of_getLsbD_eq
  intro b hb
  rw [(iteration_bit_iff x hb).2 (h.iteration_tot hb).le, BitVec.getLsbD_allOnes,
    decide_eq_true hb]

end State.NoInformation

theorem noInformation_pass {s : State} (h : ∀ i, (hi : i < 174) → quant s.llrBuf[i] = 0)
    (k : Nat) : (s.pass k).NoInformation := by
  induction k with
  | zero =>
    exact ⟨fun b hb => (attemptStart_l s hb).trans (h b hb),
      fun b _ hb hj => (attemptStart_q s hb hj).trans (h b hb)⟩
  | succ k ih =>
    rw [State.pass_succ]
    exact ih.iteration

theorem State.EndsAt.cw_of_noInformation {s : State} {k : Nat} (hk : s.EndsAt k)
    (h : ∀ i, (hi : i < 174) → quant s.llrBuf[i] = 0) :
    (s.pass k).cw = BitVec.allOnes 174 := by
  rw [hk.eq_iteration]
  exact (noInformation_pass h (k - 1)).iteration_cw

/-- The word of all ones violates exactly the checks of degree 7. -/
theorem syndromeOf_allOnes_bit_iff {g : GraphRom} (hw : g.wf = true) {c : Nat} (hc : c < 83) :
    (syndromeOf g (BitVec.allOnes 174)).getLsbD c = true ↔ g.deg c = 7 := by
  have hones : onesInCheck g (BitVec.allOnes 174) c = g.deg c :=
    List.countP_eq_length.2 fun b hb =>
      BitVec.getLsbD_allOnes.trans (decide_eq_true (GraphRom.wf_bitsOf_lt hw hc hb))
  have hdeg := GraphRom.wf_deg hw hc
  rw [syndromeOf_bit_iff _ _ hc, hones]
  omega

theorem not_isCodeword_allOnes {g : GraphRom} (hw : g.wf = true)
    (hseven : (List.range 83).countP (fun c => g.deg c == 7) = 24) :
    ¬IsCodeword g (BitVec.allOnes 174) := by
  obtain ⟨c, hc, hdeg⟩ := List.countP_pos_iff.1 (by rw [hseven]; decide)
  rw [← syndromeOf_eq_zero]
  intro hzero
  have hbit := (syndromeOf_allOnes_bit_iff hw (List.mem_range.1 hc)).2 (beq_iff_eq.1 hdeg)
  rw [hzero] at hbit
  simp at hbit

theorem length_violated_allOnes {g : GraphRom} (hw : g.wf = true) :
    ((List.range 83).filter fun c => (syndromeOf g (BitVec.allOnes 174)).getLsbD c).length =
      (List.range 83).countP fun c => g.deg c == 7 := by
  rw [← List.countP_eq_length_filter]
  refine List.countP_congr fun c hc => ?_
  rw [syndromeOf_allOnes_bit_iff hw (List.mem_range.1 hc), beq_iff_eq]

/-! ### A noiseless codeword (`95_test_vectors.md` program P3) -/

/-- The value of bit `b` of `w` at the magnitude `m`: positive means bit 0 (rule R7). -/
def noiselessLlr (w : Codeword) (m : Int) (b : Nat) : Int := if w.getLsbD b then -m else m

theorem noiselessLlr_nonpos_iff (w : Codeword) {m : Int} (hm : 0 < m) (b : Nat) :
    noiselessLlr w m b ≤ 0 ↔ w.getLsbD b = true := by
  unfold noiselessLlr
  split
  next hone => simpa [hone] using hm.le
  next hzero => simpa [hzero] using hm

theorem natAbs_noiselessLlr (w : Codeword) (m : Int) (b : Nat) :
    (noiselessLlr w m b).natAbs = m.natAbs := by
  unfold noiselessLlr
  split <;> simp

/-- The signs of a check multiply to −1 to the number of its ones. -/
theorem signProduct_noiselessLlr (w : Codeword) {m : Int} (hm : 0 < m) (bs : List Nat) :
    signProduct (bs.map (noiselessLlr w m)) = (-1) ^ bs.countP fun b => w.getLsbD b := by
  induction bs with
  | nil => rfl
  | cons b bs ih =>
    have hcons : signProduct ((b :: bs).map (noiselessLlr w m)) =
        sgn (noiselessLlr w m b) * signProduct (bs.map (noiselessLlr w m)) := rfl
    rw [hcons, ih, List.countP_cons]
    cases hbit : w.getLsbD b with
    | true => simp [noiselessLlr, hbit, sgn, hm, pow_succ]
    | false => simp [noiselessLlr, hbit, sgn, hm.le]

/-- Every channel value and every bit message is that of `w` at the magnitude `m`. -/
structure State.Noiseless (x : State) (w : Codeword) (m : Int) : Prop where
  l : ∀ b, (hb : b < 174) → x.l[b] = noiselessLlr w m b
  q : ∀ b j, (hb : b < 174) → (hj : j < 3) → x.q[b][j] = noiselessLlr w m b

namespace State.Noiseless

variable {x : State} {w : Codeword} {m : Int} (h : x.Noiseless w m) (hw : x.graph.wf = true)
include h hw

theorem checkInputs_eq {c : Nat} (hc : c < 83) :
    checkInputs x.graph x.q c = (x.graph.bitsOf c).map (noiselessLlr w m) := by
  refine List.map_congr_left fun b hbit => ?_
  obtain ⟨hb, hj, -⟩ := GraphRom.place_of_mem_bitsOf hw hc hbit
  rw [messageAt_eq_getElem _ hb hj, h.q b _ hb hj]

variable (hm : 0 < m) (hcw : IsCodeword x.graph w)
include hm hcw

/-- The other bits of a satisfied check confirm each bit at the same magnitude (rule R108). -/
theorem checkMessage_eq {b c k : Nat} (hc : c < 83) (hk : (x.graph.bitsOf c)[k]? = some b) :
    checkMessage (checkInputs x.graph x.q c) k = noiselessLlr w m b := by
  have htwo := two_le_length_checkInputs hw x.q hc
  rw [h.checkInputs_eq hw hc] at htwo ⊢
  have hequal : ∀ q ∈ (x.graph.bitsOf c).map (noiselessLlr w m), q.natAbs = m.natAbs := by
    intro q hq
    obtain ⟨b', -, rfl⟩ := List.mem_map.1 hq
    exact natAbs_noiselessLlr w m b'
  have hsign : signProduct ((x.graph.bitsOf c).map (noiselessLlr w m)) = 1 := by
    rw [signProduct_noiselessLlr w hm]
    exact (Nat.even_iff.2 (hcw c hc)).neg_one_pow
  obtain ⟨hlt, rfl⟩ := List.getElem?_eq_some_iff.1 hk
  rw [checkMessage_of_equal htwo hequal hsign (by rwa [List.length_map]), List.getElem_map]

/-- Every message place is the place of a position of some check, by the bijection of rule R50. -/
theorem iteration_r {b j : Nat} (hb : b < 174) (hj : j < 3) :
    x.iteration.r[b][j] = noiselessLlr w m b := by
  obtain ⟨-, hplaces⟩ := Proofs.edgeSlotsAreABijection x.graph hw
  obtain ⟨⟨c, k⟩, ⟨hc, hk, hslot⟩, -⟩ := hplaces b j hb hj
  rw [Machine.iteration_r hb hj, ← hslot, edgeMessage_slot hw x.q hc hk]
  exact h.checkMessage_eq hw hm hcw hc hk

theorem iteration_tot {b : Nat} (hb : b < 174) :
    x.iteration.tot[b] = 4 * noiselessLlr w m b := by
  have hl : x.iteration.l[b] = noiselessLlr w m b := by simpa using h.l b hb
  have hr := fun j hj => h.iteration_r hw hm hcw (j := j) hb hj
  rw [Machine.iteration_tot hb, hl, hr, hr, hr]
  omega

theorem iteration_cw : x.iteration.cw = w := by
  apply BitVec.eq_of_getLsbD_eq
  intro b hb
  rw [Bool.eq_iff_iff, iteration_bit_iff x hb, h.iteration_tot hw hm hcw hb,
    ← noiselessLlr_nonpos_iff w hm]
  omega

theorem iteration_syn : x.iteration.syn = 0 := by
  rw [Machine.iteration_syn, h.iteration_cw hw hm hcw, State.iteration_graph]
  exact (syndromeOf_eq_zero _ _).2 hcw

end State.Noiseless

theorem noiseless_attemptStart {s : State} {w : Codeword} {m : Int}
    (h : ∀ i, (hi : i < 174) → quant s.llrBuf[i] = if w.getLsbD i then -m else m) :
    s.attemptStart.Noiseless w m :=
  ⟨fun b hb => (attemptStart_l s hb).trans (h b hb),
    fun b _ hb hj => (attemptStart_q s hb hj).trans (h b hb)⟩

end Sys2Proof.Machine

end

/-! ## The obligations of `41_decode.md` -/

section

namespace Sys2Proof.Proofs

open Sys2Proof.Machine

/-- Settles O16. -/
theorem quantisationTruncatesAndSaturates : Obligations.QuantisationTruncatesAndSaturates := by
  intro w e f mant e1 he hf hmant he1
  rw [← floatExponent_eq] at he
  rw [← floatFraction_eq] at hf
  subst he hf
  refine ⟨fun _ => ?_, withinLmax_quant w⟩
  rw [min_floor_eq_quantMagnitude hmant he1, quant]
  simp only [floatSign_iff]
  split <;> simp

/-- Settles O18. -/
theorem checkMessagesAreMinSumOfTheOthers : Obligations.CheckMessagesAreMinSumOfTheOthers := by
  refine fun s hw => ⟨fun c k hc hk b q hb hq => ?_, rfl⟩
  have hlen := length_checkInputs s.graph s.q c
  have hinput : ∀ n, (h : n < (checkInputs s.graph s.q c).length) →
      q n = (checkInputs s.graph s.q c)[n] :=
    fun n h => by rw [hq, hb, checkInputs_getElem h]
  obtain ⟨m, hmin, hle, hmessage⟩ :=
    checkMessage_eq_minSum hinput (two_le_length_checkInputs hw s.q hc) (hk.trans_eq hlen.symm)
  rw [hlen] at hmin hle hmessage
  have hat : (s.graph.bitsOf c)[k]? = some (b k) := by
    rw [hb, List.getD_eq_getElem _ _ hk]
    exact List.getElem?_eq_getElem hk
  obtain ⟨hbit, hslot, -⟩ := GraphRom.place_of_mem_bitsOf hw hc (List.mem_of_getElem? hat)
  refine ⟨m, hmin, hle, ?_⟩
  rw [c2b_messageAt s hbit hslot, edgeMessage_slot hw s.q hc hat, hmessage]
  rfl

/-- Settles O23. -/
theorem decIsTheIteratedMicroOperations : Obligations.DecIsTheIteratedMicroOperations := by
  intro s x hg hlen hfin budget zero succ
  have hpass : ∀ k, x k = s.pass k := eq_pass_of_succ zero succ
  obtain ⟨n, -, hn, -⟩ := runAttempt_eq s
  refine ⟨n, hn.1, hn.le_budget budget, fun k hk hkn => ?_, ?_⟩
  · rw [hpass, Bool.eq_false_iff]
    exact fun hsok => hn.2.1 k hk hkn (.inl hsok)
  · rw [hpass, exec_dec_ran hg hlen hfin]
    cases hsok : (s.pass n).sok with
    | true =>
      rw [hn.runAttempt_of_sok hsok, ← withResult_payv]
      exact .inl ⟨rfl, rfl⟩
    | false =>
      have hiter := congrArg BitVec.toNat (hn.iter_eq_maxIter hsok)
      rw [hn.iter_toNat budget, pass_maxIter] at hiter
      rw [hn.runAttempt_of_not_sok hsok]
      exact .inr ⟨rfl, hiter, rfl⟩

/-- Settles O24. -/
theorem decEndsWithinItsBudget : Obligations.DecEndsWithinItsBudget := by
  intro s hg hlen hfin budget
  obtain ⟨one_le, le_budget⟩ := runAttempt_iter_bounds budget
  obtain ⟨hiil, hiin⟩ := runAttempt_causes s
  have hsynv := runAttempt_synv s
  have houtcome := runAttempt_outcome s
  refine ⟨_, exec_dec_ran hg hlen hfin, ?_⟩
  simp [one_le, le_budget, hsynv, hiil, hiin, houtcome]

/-- Settles O27: DEC leaves what it reads, so the second DEC has the input of the first. -/
theorem decIsIdempotent : Obligations.DecIsIdempotent := by
  intro a d s t hexec
  obtain ⟨hg, heq⟩ | ⟨hg, hbad, heq⟩ | ⟨hg, rfl, rfl⟩ := exec_dec_cases a d s
  · obtain rfl := Host.Outcome.next.inj (heq.symm.trans hexec)
    exact congrArg Host.Outcome.next (command_graphRefused hg)
  · obtain rfl := Host.Outcome.next.inj (heq.symm.trans hexec)
    exact congrArg Host.Outcome.next
      (command_operandRefused (.inl hg) (.inl (unusedZero_z_eq_false hbad)))
  · obtain rfl := Host.Outcome.next.inj ((exec_dec hg).symm.trans hexec)
    have hg' : (s.decResult.respond s.decCode s.decResult.status).gfail = false :=
      (decResult_gfail s).trans hg
    rw [exec_dec hg', decResult_respond_decResult, decCode_respond_decResult]
    rfl

/-- Settles O29. -/
theorem largerBudgetKeepsAConvergedResult : Obligations.LargerBudgetKeepsAConvergedResult := by
  intro s t m budget hle hexec hres
  change exec (.dec 0 0) (s.withBudget m) = .next (t.withBudget m)
  obtain ⟨hg, heq⟩ | ⟨-, hbad, -⟩ | ⟨hg, -, -⟩ := exec_dec_cases 0 0 s
  · obtain rfl := Host.Outcome.next.inj (heq.symm.trans hexec)
    exact congrArg Host.Outcome.next (command_graphRefused hg)
  · simp at hbad
  · obtain rfl := Host.Outcome.next.inj ((exec_dec hg).symm.trans hexec)
    have hg' : (s.withBudget m).gfail = false := hg
    rw [exec_dec hg', decResult_withBudget budget hle hres]
    rfl

/-- Settles O30: a pass on no information leaves no information and the word of all ones, which
violates the 24 checks of degree 7 (O15). -/
theorem noInformationExhaustsTheBudget : Obligations.NoInformationExhaustsTheBudget := by
  intro s hw hg hlen hfin _ hzero
  obtain ⟨-, -, hseven, -⟩ := twentyFourChecksHaveDegreeSeven s.graph hw
  obtain ⟨k, -, hk, -⟩ := runAttempt_eq s
  have hcw := hk.cw_of_noInformation hzero
  have hsyn : (s.pass k).syn = syndromeOf s.graph (BitVec.allOnes 174) := hcw ▸ hk.syn_eq
  have hsok : (s.pass k).sok = false := by
    rw [Bool.eq_false_iff, ne_eq, hk.sok_iff, hcw]
    exact not_isCodeword_allOnes hw hseven
  refine ⟨_, exec_dec_ran hg hlen hfin, ?_⟩
  rw [hk.runAttempt_of_not_sok hsok]
  refine ⟨rfl, (hk.iter_eq_maxIter hsok).trans (pass_maxIter s k), hcw, pass_pv s k,
    pass_pld s k, fun c hc => ?_, ?_⟩
  · simp only [State.answered_syn, State.withResult_syn, hsyn]
    exact syndromeOf_allOnes_bit_iff hw hc
  · simp only [State.answered_syn, State.withResult_syn, hsyn]
    exact (length_violated_allOnes hw).trans hseven

/-- Settles O31: the first pass confirms every bit at three times its magnitude, so its hard
decisions are the codeword and the attempt ends there. -/
theorem noiselessCodewordDecodesAtOnce : Obligations.NoiselessCodewordDecodesAtOnce := by
  intro s w m hw hg hlen hfin _ hcw hm hquant
  have hgraph : s.attemptStart.graph = s.graph := by simp [State.attemptStart]
  rw [← hgraph] at hw hcw
  have hstart := noiseless_attemptStart hquant
  have hword : (s.pass 1).cw = w := hstart.iteration_cw hw hm hcw
  have hsyn : (s.pass 1).syn = 0 := hstart.iteration_syn hw hm hcw
  have hsok : (s.pass 1).sok = true := by
    rw [State.pass_succ, iteration_sok, ← State.pass_succ, hsyn]
    rfl
  have hend : s.EndsAt 1 := ⟨le_refl 1, fun j hj hj' => absurd hj (by omega), .inl hsok⟩
  refine ⟨_, exec_dec_ran hg hlen hfin, ?_⟩
  rw [hend.runAttempt_of_sok hsok]
  refine ⟨rfl, by simpa using pass_iter s 1, by simpa using hword, by simpa using hsyn,
    fun b hb => ?_, fun hmatch => ?_, fun hmismatch => ?_⟩
  · have hl : (s.pass 1).l = s.attemptStart.l := pass_keeps State.l (by simp) s 1
    simp only [State.answered_tot, State.answered_l, State.answered_r, State.withResult_tot,
      State.withResult_l, State.withResult_r, State.payv_tot, State.payv_l, State.payv_r, hl,
      hstart.l b hb]
    exact ⟨hstart.iteration_tot hw hm hcw hb, fun j hj => hstart.iteration_r hw hm hcw hb hj⟩
  · rw [payv_of_match (by rwa [pass_checksumUnit, hword]), hword]
    exact ⟨rfl, rfl⟩
  · rw [payv_of_mismatch (by rwa [pass_checksumUnit, hword])]
    exact ⟨rfl, rfl⟩

/-- Settles O17. -/
theorem initBuildsAFreshContext : Obligations.InitBuildsAFreshContext := by
  refine fun s => ⟨fun b hb => ⟨initContext_l s hb, initContext_tot s hb, fun j hj =>
    ⟨initContext_q s hb hj, ?_⟩⟩, ?_⟩
  · simp only [State.initContext_r, zeroMessages_getElem hb hj]
  · unfold State.initContext
    rfl

/-- Settles O19. -/
theorem bitMessagesAreSaturatedTotals : Obligations.BitMessagesAreSaturatedTotals :=
  fun s => ⟨fun _ hb => ⟨b2c_tot s hb, fun _ hj => b2c_q s hb hj⟩, rfl⟩

/-- Settles O20. -/
theorem hardDecisionTakesZeroAsOne : Obligations.HardDecisionTakesZeroAsOne :=
  fun s => ⟨fun _ hb => hard_bit_iff s hb, rfl⟩

/-- Settles O36. -/
theorem setitSetsTheBudget : Obligations.SetitSetsTheBudget := by
  refine fun a d s => ⟨fun hg => ?_, fun hg hbad => ?_, ?_⟩
  · exact congrArg Host.Outcome.next (command_graphRefused hg)
  · refine congrArg Host.Outcome.next (command_operandRefused (.inl hg) ?_)
    refine hbad.imp unusedZero_d_eq_false fun hillegal => ?_
    rw [Bool.eq_false_iff, ne_eq, budgetLegal_iff]
    omega
  · rintro hg rfl hpos hle
    have hbudget : BitVec.ofNat 8 d.toNat = d.extractLsb' 0 8 := rfl
    rw [hbudget]
    exact congrArg Host.Outcome.next
      (command_run (.inl hg) rfl ((budgetLegal_iff d).2 ⟨hpos, hle⟩))

/-- Settles O37. -/
theorem llrpPushesOneValue : Obligations.LlrpPushesOneValue := by
  refine fun a d s => ⟨fun hg => ?_, fun hg hbad => ?_, ?_⟩
  · exact congrArg Host.Outcome.next (command_graphRefused hg)
  · exact congrArg Host.Outcome.next
      (command_operandRefused (.inl hg) (.inl (unusedZero_d_eq_false hbad)))
  · rintro hg rfl
    refine ⟨s.pushLlr d, rfl, pushLlr_llrCnt_toNat s d, fun i hi => ?_, ?_⟩
    · simp only [pushLlr_llrBuf_getElem s d hi, eq_comm]
    · rw [BitVec.ofNat_toNat]
      exact congrArg Host.Outcome.next (command_run (.inl hg) rfl rfl)

end Sys2Proof.Proofs

end

/-! ## Words of a bit sequence as operands and answers; SYND is linear -/

section

namespace Sys2Proof.Machine

/-! ### Word numbers as operands (rules R74, R130, R133, R134) -/

theorem codewordWordLegal_iff (a : AField) : codewordWordLegal a = true ↔ a.toNat ≤ 5 := by
  simp [codewordWordLegal, BitVec.le_def]

theorem shortWordLegal_iff (a : AField) : shortWordLegal a = true ↔ a.toNat ≤ 2 := by
  simp [shortWordLegal, BitVec.le_def]

/-- In word 5 of CW only the elements 160 to 173 exist, the low 14 bits of D. -/
theorem codewordWriteLegal_iff (a : AField) (d : DField) :
    codewordWriteLegal a d = true ↔
      a.toNat < 5 ∨ (a.toNat = 5 ∧ d.toNat / 2 ^ 14 = 0) := by
  have hpast : d.extractLsb' 14 18 = 0#18 ↔ d.toNat / 2 ^ 14 = 0 := by
    rw [← BitVec.toNat_inj, BitVec.extractLsb'_toNat, Nat.shiftRight_eq_div_pow,
      BitVec.toNat_zero]
    omega
  have hword : a ≠ 5#24 ↔ a.toNat ≠ 5 := BitVec.toNat_inj.symm.not
  simp only [codewordWriteLegal, Bool.and_eq_true, Bool.or_eq_true, decide_eq_true_eq,
    bne_iff_ne, beq_iff_eq, hpast, hword, BitVec.le_def, BitVec.toNat_ofNat]
  omega

/-! ### Words of a sequence (rule R52) -/

theorem seqWord_bit {n : Nat} (v : BitVec n) (w : Nat) {i : Nat} (hi : i < 32) :
    (seqWord v w).getLsbD i =
      if 32 * w + i < n then v.getLsbD (32 * w + i) else false := by
  rw [getLsbD_seqWord, decide_eq_true hi, Bool.true_and]
  split
  next => rfl
  next hpast => exact BitVec.getLsbD_of_ge v _ (Nat.le_of_not_lt hpast)

@[simp] theorem seqWord_zero (n w : Nat) : seqWord (0 : BitVec n) w = 0 := by
  simp [seqWord]

/-- The elements of word `w` are those from `32w` to `32w + 31`. -/
theorem writeCodewordWord_bit (cw : Codeword) (w : Nat) (d : DField) {i : Nat} (hi : i < 174) :
    (writeCodewordWord cw w d).getLsbD i =
      if 32 * w ≤ i ∧ i ≤ 32 * w + 31 then d.getLsbD (i - 32 * w) else cw.getLsbD i := by
  rw [getLsbD_writeCodewordWord, decide_eq_true hi, Bool.true_and]
  by_cases hword : i / 32 = w
  · have hmod : i % 32 = i - 32 * w := by omega
    rw [if_pos hword, if_pos (by omega), hmod]
  · rw [if_neg hword, if_neg (by omega)]

/-! ### SYND (rules R131, R135) -/

theorem synd_bit_iff (s : State) {c : Nat} (hc : c < 83) :
    s.synd.syn.getLsbD c = true ↔ onesInCheck s.graph s.cw c % 2 = 1 := by
  rw [State.synd_syn, syndromeOf_bit_iff _ _ hc]

theorem synd_sok_iff (s : State) : s.synd.sok = true ↔ IsCodeword s.graph s.cw := by
  rw [State.synd_sok, beq_iff_eq]
  exact syndromeOf_eq_zero _ _

theorem synd_frame (s : State) :
    s.synd = { s with syn := s.synd.syn, synv := true, sok := s.synd.sok } := by
  unfold State.synd
  rfl

/-- The ones of SYN are the violated checks (rule R132). -/
theorem popcount_synd_syn (s : State) :
    popcount s.synd.syn =
      ((List.range 83).filter fun c => onesInCheck s.graph s.cw c % 2 == 1).length := by
  rw [popcount, ← List.countP_eq_length_filter]
  refine List.countP_congr fun c hc => ?_
  rw [synd_bit_iff s (List.mem_range.1 hc), beq_iff_eq]

theorem parity_xor (g : GraphRom) (x y : Codeword) (c : Nat) :
    parity g (x ^^^ y) c = (parity g x c ^^ parity g y c) := by
  unfold parity
  induction g.bitsOf c with
  | nil => rfl
  | cons b bs ih =>
    rw [List.foldr_cons, List.foldr_cons, List.foldr_cons, ih, BitVec.getLsbD_xor]
    simp only [Bool.xor_assoc, Bool.xor_left_comm]

theorem syndromeOf_xor (g : GraphRom) (x y : Codeword) :
    syndromeOf g (x ^^^ y) = syndromeOf g x ^^^ syndromeOf g y := by
  apply BitVec.eq_of_getLsbD_eq
  intro c hc
  simp only [BitVec.getLsbD_xor, getLsbD_syndromeOf, hc, decide_true, Bool.true_and, parity_xor]

theorem isCodeword_xor {g : GraphRom} {x y : Codeword} (hx : IsCodeword g x)
    (hy : IsCodeword g y) : IsCodeword g (x ^^^ y) := by
  rw [← syndromeOf_eq_zero] at hx hy ⊢
  rw [syndromeOf_xor, hx, hy]
  exact BitVec.xor_self

end Sys2Proof.Machine

end

/-! ## The obligations of `42_syndrome.md` -/

section

namespace Sys2Proof.Proofs

open Sys2Proof.Machine

/-- Settles O21. -/
theorem syndIsTheParityOfEveryCheck : Obligations.SyndIsTheParityOfEveryCheck :=
  fun s => ⟨fun _ hc => synd_bit_iff s hc, synd_sok_iff s, synd_frame s⟩

/-- Settles O39. -/
theorem synCountsTheViolatedChecks : Obligations.SynCountsTheViolatedChecks := by
  refine fun a d s => ⟨fun hg => ?_, fun hg hbad => ?_, ?_⟩
  · exact congrArg Host.Outcome.next (command_graphRefused hg)
  · exact congrArg Host.Outcome.next
      (command_operandRefused (.inl hg) (.inl (unusedZero_z_eq_false hbad)))
  · rintro hg rfl rfl
    refine ⟨s.synd, synd_frame s, fun _ hc => synd_bit_iff s hc, synd_sok_iff s, ?_⟩
    rw [exec_syn hg, popcount_synd_syn]

/-- Settles O59: the parity of a check is an XOR of bits, so the syndrome of an XOR is the XOR of
the syndromes, and codewords are the words of zero syndrome. -/
theorem codewordsAreClosedUnderXor : Obligations.CodewordsAreClosedUnderXor := by
  refine ⟨fun s u v hu hv hcw => ⟨?_, ?_⟩, fun s hcw => ?_, synd_sok_iff,
    fun g => ⟨isCodeword_zero g, fun _ _ => isCodeword_xor⟩⟩
  · simp only [State.synd_syn, hu, hv, hcw, syndromeOf_xor]
  · simp only [synd_sok_iff, hu, hv, hcw]
    exact isCodeword_xor
  · have hzero : IsCodeword s.graph s.cw := hcw ▸ isCodeword_zero s.graph
    exact ⟨(State.synd_syn s).trans ((syndromeOf_eq_zero _ _).2 hzero), (synd_sok_iff s).2 hzero⟩

/-- Settles O38. -/
theorem cwwWritesOneCodewordWord : Obligations.CwwWritesOneCodewordWord := by
  refine fun a d s => ⟨fun hg => ?_, fun hg hbad => ?_, fun hg hlegal => ?_⟩
  · exact congrArg Host.Outcome.next (command_graphRefused hg)
  · refine congrArg Host.Outcome.next (command_operandRefused (.inl hg) (.inr ?_))
    rw [Bool.eq_false_iff, ne_eq, codewordWriteLegal_iff]
    omega
  · exact ⟨{ s.dropResults with cw := writeCodewordWord s.cw a.toNat d }, rfl,
      fun _ hi => writeCodewordWord_bit s.cw a.toNat d hi, congrArg Host.Outcome.next
        (command_run (.inl hg) rfl ((codewordWriteLegal_iff a d).2 hlegal))⟩

/-- Settles O43. -/
theorem rdcwReadsACodewordWord : Obligations.RdcwReadsACodewordWord := by
  refine fun a d s => ⟨fun hg => ?_, fun hg hbad => ?_, ?_⟩
  · exact congrArg Host.Outcome.next (command_graphRefused hg)
  · refine congrArg Host.Outcome.next (command_operandRefused (.inl hg) ?_)
    refine hbad.imp unusedZero_a_eq_false fun hillegal => ?_
    rw [Bool.eq_false_iff, ne_eq, codewordWordLegal_iff]
    omega
  · rintro hg rfl hword
    refine ⟨seqWord s.cw a.toNat, fun _ hi => seqWord_bit _ _ hi, fun hcw => ?_,
      congrArg Host.Outcome.next (command_run (.inl hg) rfl ((codewordWordLegal_iff a).2 hword))⟩
    rw [hcw, seqWord_zero]

/-- Settles O45: while SYNV = 0 the invariants keep SYN at zero. -/
theorem rdsyReadsASyndromeWord : Obligations.RdsyReadsASyndromeWord := by
  refine fun a d s => ⟨fun hg => ?_, fun hg hbad => ?_, ?_⟩
  · exact congrArg Host.Outcome.next (command_graphRefused hg)
  · refine congrArg Host.Outcome.next (command_operandRefused (.inl hg) ?_)
    refine hbad.imp unusedZero_a_eq_false fun hillegal => ?_
    rw [Bool.eq_false_iff, ne_eq, shortWordLegal_iff]
    omega
  · rintro hg rfl hword
    refine ⟨seqWord s.syn a.toNat, fun _ hi => seqWord_bit _ _ hi, fun h hsynv => ?_,
      congrArg Host.Outcome.next (command_run (.inl hg) rfl ((shortWordLegal_iff a).2 hword))⟩
    rw [h.syn_zero hsynv, seqWord_zero]

end Sys2Proof.Proofs

end

/-! ## The two parts of a message compared; RES and PV after DEC -/

section

namespace Sys2Proof.Machine

/-! ### The message inside the codeword, element by element (rules R140, R141) -/

theorem payloadOf_eq_iff (cw : Codeword) (p : Payload) :
    payloadOf cw = p ↔ ∀ i, i < 77 → p.getLsbD i = cw.getLsbD i := by
  rw [eq_comm, BitVec.eq_of_getLsbD_eq_iff]
  refine forall₂_congr fun i hi => ?_
  rw [getLsbD_payloadOf, decide_eq_true hi, Bool.true_and]

theorem eq_checksumOf_iff (ck : Checksum) (cw : Codeword) :
    ck = checksumOf cw ↔ ∀ i, i < 14 → ck.getLsbD i = cw.getLsbD (77 + i) := by
  rw [BitVec.eq_of_getLsbD_eq_iff]
  refine forall₂_congr fun i hi => ?_
  rw [getLsbD_checksumOf, decide_eq_true hi, Bool.true_and]

/-! ### Word numbers of PLD as operands (rules R71, R143) -/

theorem shortWord_operands_illegal {a : AField} {d : DField} (h : d ≠ 0 ∨ 2 < a.toNat) :
    Format.a.unusedZero a d = false ∨ shortWordLegal a = false := by
  refine h.imp unusedZero_a_eq_false fun hillegal => ?_
  rw [Bool.eq_false_iff, ne_eq, shortWordLegal_iff]
  exact Nat.not_le_of_lt hillegal

/-! ### The outcome of DEC in RES and PV (rules R23, R24, R146) -/

theorem respond_status (s : State) (rc : ResponseCode) (data : BitVec 32) :
    (s.respond rc data).status = s.status := rfl

/-- The low four bits of STATUS are RES and PV (rule R29). -/
theorem status_low_nibble (s : State) :
    s.status.toNat % 16 = (resCode s.res).toNat + 4 * (pvCode s.pv).toNat := by
  have hres := (resCode s.res).isLt
  have hpv := (pvCode s.pv).isLt
  rw [status_toNat]
  omega

theorem runAttempt_res_pv (s : State) :
    (s.runAttempt.res = .converged ∧
      (s.runAttempt.pv = .valid ∨ s.runAttempt.pv = .checksumMismatch)) ∨
    (s.runAttempt.res = .maxIterationsExceeded ∧ s.runAttempt.pv = .notRun) := by
  obtain ⟨k, -, hk, -⟩ := runAttempt_eq s
  cases hsok : (s.pass k).sok with
  | true =>
    rw [hk.runAttempt_of_sok hsok]
    exact .inl ⟨rfl, payv_pv _⟩
  | false =>
    rw [hk.runAttempt_of_not_sok hsok]
    exact .inr ⟨rfl, pass_pv s k⟩

/-- What a DEC past the common checks leaves in RES and PV, with its response code. -/
theorem decResult_res_pv (s : State) :
    (s.decCode = .ok ∧ s.decResult.res = .converged ∧
      (s.decResult.pv = .valid ∨ s.decResult.pv = .checksumMismatch)) ∨
    (s.decCode = .ok ∧ s.decResult.res = .maxIterationsExceeded ∧ s.decResult.pv = .notRun) ∨
    (s.decCode = .errInput ∧ s.decResult.res = .inputInvalid ∧ s.decResult.pv = .notRun) := by
  unfold State.decCode State.decResult
  cases s.wrongLength || s.hasNonfinite with
  | true => exact .inr (.inr ⟨rfl, rfl, rfl⟩)
  | false =>
    obtain hconverged | hexceeded := runAttempt_res_pv s
    · exact .inl ⟨rfl, hconverged⟩
    · exact .inr (.inl ⟨rfl, hexceeded⟩)

end Sys2Proof.Machine

end

/-! ## The obligations of `43_payload.md` -/

section

namespace Sys2Proof.Proofs

open Sys2Proof.Machine

/-- Settles O32: STATUS carries RES and PV in its low four bits, and DEC leaves them in one of four
combinations. -/
theorem decOutcomesAreReportedDistinctly : Obligations.DecOutcomesAreReportedDistinctly := by
  intro s hg
  refine ⟨_, exec_dec hg, ?_⟩
  simp only [respond_status, status_low_nibble, State.respond_res, State.respond_pv,
    State.respond_response]
  obtain ⟨hcode, hres, hpv | hpv⟩ | ⟨hcode, hres, hpv⟩ | ⟨hcode, hres, hpv⟩ :=
    decResult_res_pv s <;> rw [hcode, hres, hpv]
  · exact .inl ⟨rfl, rfl, rfl, rfl⟩
  · exact .inr (.inl ⟨rfl, rfl, rfl, rfl⟩)
  · exact .inr (.inr (.inl ⟨rfl, rfl, rfl, rfl⟩))
  · exact .inr (.inr (.inr ⟨rfl, rfl, rfl, rfl⟩))

/-- Settles O22. -/
theorem payvComparesTheChecksum : Obligations.PayvComparesTheChecksum := by
  intro s p hp
  obtain rfl := (payloadOf_eq_iff s.cw p).2 hp
  refine ⟨fun hmatch => payv_of_match ((eq_checksumOf_iff _ _).2 hmatch), ?_⟩
  rintro ⟨i, hi, hne⟩
  exact payv_of_mismatch fun heq => hne ((eq_checksumOf_iff _ _).1 heq i hi)

/-- Settles O40. -/
theorem payReportsTheValidity : Obligations.PayReportsTheValidity := by
  refine fun a d s => ⟨fun hg => ?_, fun hg hbad => ?_, ?_, ?_⟩
  · exact congrArg Host.Outcome.next (command_graphRefused hg)
  · exact congrArg Host.Outcome.next
      (command_operandRefused (.inl hg) (.inl (unusedZero_z_eq_false hbad)))
  · rintro hg rfl rfl hmatch
    rw [exec_pay hg, payv_of_match hmatch]
    rfl
  · rintro hg rfl rfl hmismatch
    rw [exec_pay hg, payv_of_mismatch hmismatch]
    rfl

/-- Settles O44: unless PV = Valid the invariants keep PLD at zero. -/
theorem rdplReadsAPayloadWord : Obligations.RdplReadsAPayloadWord := by
  refine fun a d s => ⟨fun hg => ?_, fun hg hbad => ?_, ?_⟩
  · exact congrArg Host.Outcome.next (command_graphRefused hg)
  · exact congrArg Host.Outcome.next
      (command_operandRefused (.inl hg) (shortWord_operands_illegal hbad))
  · rintro hg rfl hword
    refine ⟨seqWord s.pld a.toNat, fun _ hi => seqWord_bit _ _ hi, fun h hpv => ?_,
      congrArg Host.Outcome.next (command_run (.inl hg) rfl ((shortWordLegal_iff a).2 hword))⟩
    rw [h.no_payload hpv, seqWord_zero]

end Sys2Proof.Proofs

end

/-! ## Reading a bit's entry of L or TOT -/

section

namespace Sys2Proof.Machine

/-! ### Bit numbers as operands (rules R71, R74) -/

theorem bitIndex_operands_illegal {a : AField} {d : DField} (h : d ≠ 0 ∨ 173 < a.toNat) :
    Format.a.unusedZero a d = false ∨ bitIndexLegal a = false := by
  refine h.imp unusedZero_a_eq_false fun hillegal => ?_
  rw [Bool.eq_false_iff, ne_eq, bitIndexLegal_iff]
  omega

/-! ### CLR, RDLLR and RDTOT past the common checks (rules R151, R154, R155) -/

/-- What CLR clears is all that reset clears, but for the elements named. -/
theorem exec_clr {s : State} (hg : s.gfail = false) :
    exec (.clr 0 0) s = .next
      { State.resetWith s.graph s.checksumUnit with
        maxIter := s.maxIter, cerr := s.cerr, gfail := s.gfail, phase := s.phase
        commands := s.commands, response := some (responseWord .ok 0) } :=
  congrArg Host.Outcome.next (command_run (.inl hg) rfl rfl)

/-- RDLLR and RDTOT answer one bit's entry in a register file: L for the one, TOT for the other. -/
theorem command_readBit {s : State} {a : AField} (file : State → BitFile) (hg : s.gfail = false)
    (hb : a.toNat < 174) :
    s.command false (Format.a.unusedZero a 0) (bitIndexLegal a)
        (fun s => s.respond .ok (sext32 (bitAt (file s) a.toNat))) =
      s.answered (BitVec.ofInt 32 (file s)[a.toNat]) := by
  have hunused : Format.a.unusedZero a 0 = true := rfl
  rw [command_run (.inl hg) hunused ((bitIndexLegal_iff a).2 hb), respond_ok,
    bitAt_eq_getElem _ hb, sext32]

end Sys2Proof.Machine

end

/-! ## The obligations of `44_control_status.md` -/

section

namespace Sys2Proof.Proofs

open Sys2Proof.Machine

/-- Settles O33. -/
theorem nopOnlyAnswers : Obligations.NopOnlyAnswers := by
  refine fun a d s => ⟨?_, fun hbad => ?_⟩
  · rintro rfl rfl
    exact congrArg Host.Outcome.next (command_run (.inr rfl) rfl rfl)
  · exact congrArg Host.Outcome.next
      (command_operandRefused (.inr rfl) (.inl (unusedZero_z_eq_false hbad)))

/-- Settles O34. -/
theorem clrMakesTheContextFresh : Obligations.ClrMakesTheContextFresh := by
  refine fun a d s => ⟨fun hg => ?_, fun hg hbad => ?_, ?_⟩
  · exact congrArg Host.Outcome.next (command_graphRefused hg)
  · exact congrArg Host.Outcome.next
      (command_operandRefused (.inl hg) (.inl (unusedZero_z_eq_false hbad)))
  · rintro hg rfl rfl
    exact exec_clr hg

/-- Settles O46. -/
theorem rdllrReadsAChannelLlr : Obligations.RdllrReadsAChannelLlr := by
  refine fun a d s => ⟨fun hg => ?_, fun hg hbad => ?_, ?_⟩
  · exact congrArg Host.Outcome.next (command_graphRefused hg)
  · exact congrArg Host.Outcome.next
      (command_operandRefused (.inl hg) (bitIndex_operands_illegal hbad))
  · rintro hg rfl hb
    exact congrArg Host.Outcome.next (command_readBit State.l hg hb)

/-- Settles O47. -/
theorem rdtotReadsATotal : Obligations.RdtotReadsATotal := by
  refine fun a d s => ⟨fun hg => ?_, fun hg hbad => ?_, ?_⟩
  · exact congrArg Host.Outcome.next (command_graphRefused hg)
  · exact congrArg Host.Outcome.next
      (command_operandRefused (.inl hg) (bitIndex_operands_illegal hbad))
  · rintro hg rfl hb
    exact congrArg Host.Outcome.next (command_readBit State.tot hg hb)

end Sys2Proof.Proofs

end

/-! ## The common checks as every command makes them

Every command is its own rule behind checks 2 to 4 of rule R172. R175's table is checks 3 and 4,
and no command's own rule answers with the errors of those checks. -/

section

namespace Sys2Proof.Machine

/-! ### Check 3 by format (rule R71) -/

theorem unusedZero_z_iff (a : AField) (d : DField) :
    Format.z.unusedZero a d = true ↔ a.toNat = 0 ∧ d.toNat = 0 := by
  simp only [Format.unusedZero, Bool.and_eq_true, beq_iff_eq, ← BitVec.toNat_inj,
    BitVec.toNat_zero]

theorem unusedZero_a_iff (a : AField) (d : DField) :
    Format.a.unusedZero a d = true ↔ d.toNat = 0 := by
  simp only [Format.unusedZero, beq_iff_eq, ← BitVec.toNat_inj, BitVec.toNat_zero]

theorem unusedZero_d_iff (a : AField) (d : DField) :
    Format.d.unusedZero a d = true ↔ a.toNat = 0 := by
  simp only [Format.unusedZero, beq_iff_eq, ← BitVec.toNat_inj, BitVec.toNat_zero]

end Sys2Proof.Machine

namespace Sys2Proof.Instr

open Sys2Proof.Machine

/-! ### Checks 3 and 4 as one table (rules R71, R74, R175) -/

/-- Check 3 as the command's arm makes it: the fields its format does not use are zero. -/
def unusedZero : Instr → Bool
  | .nop a d | .clr a d | .gchk a d | .dec a d | .syn a d | .pay a d | .rdst a d | .rdit a d =>
      Format.z.unusedZero a d
  | .setit a d | .llrp a d => Format.d.unusedZero a d
  | .cww a d => Format.ad.unusedZero a d
  | .rdcw a d | .rdpl a d | .rdsy a d | .rdllr a d | .rdtot a d | .rdmsg a d | .chkof a d
  | .bitof a d | .romrd a d => Format.a.unusedZero a d

/-- Check 4 as the command's arm makes it: its operands are in range. -/
def operandLegal : Instr → Bool
  | .nop _ _ | .clr _ _ | .gchk _ _ | .dec _ _ | .syn _ _ | .pay _ _ | .rdst _ _ | .rdit _ _
  | .llrp _ _ => anyOperand
  | .setit _ d => budgetLegal d
  | .cww a d => codewordWriteLegal a d
  | .rdcw a _ => codewordWordLegal a
  | .rdpl a _ | .rdsy a _ => shortWordLegal a
  | .rdllr a _ | .rdtot a _ | .chkof a _ => bitIndexLegal a
  | .rdmsg a _ => messageIndexLegal a
  | .bitof a _ => checkIndexLegal a
  | .romrd a _ => romAddressLegal a

/-- The checks the machine makes field by field refuse what R175's table refuses. -/
theorem wellFormed_iff (i : Instr) :
    i.wellFormed = true ↔ i.unusedZero = true ∧ i.operandLegal = true := by
  cases i with
  | nop a d | clr a d | gchk a d | dec a d | syn a d | pay a d | rdst a d | rdit a d =>
    simp [wellFormed, operandError, unusedZero, operandLegal, unusedZero_z_iff, anyOperand]
  | llrp a d =>
    simp [wellFormed, operandError, unusedZero, operandLegal, unusedZero_d_iff, anyOperand]
  | setit a d =>
    simp [wellFormed, operandError, unusedZero, operandLegal, unusedZero_d_iff, budgetLegal_iff,
      Nat.one_le_iff_ne_zero, and_assoc]
  | cww a d =>
    have hword : a.toNat < 5 ∨ a.toNat = 5 ∧ d.toNat / 2 ^ 14 = 0 ↔
        a.toNat ≤ 5 ∧ (a.toNat ≠ 5 ∨ d.toNat / 2 ^ 14 = 0) := by omega
    simp [wellFormed, operandError, unusedZero, operandLegal, Format.unusedZero,
      (codewordWriteLegal_iff a d).trans hword]
  | rdcw a d =>
    simp [wellFormed, operandError, unusedZero, operandLegal, unusedZero_a_iff,
      codewordWordLegal_iff]
  | rdpl a d | rdsy a d =>
    simp [wellFormed, operandError, unusedZero, operandLegal, unusedZero_a_iff, shortWordLegal_iff]
  | rdllr a d | rdtot a d | chkof a d =>
    simp [wellFormed, operandError, unusedZero, operandLegal, unusedZero_a_iff, bitIndexLegal_iff,
      ← Nat.lt_succ_iff]
  | rdmsg a d =>
    have hslot : a.toNat / 2 ^ 8 % 4 < 3 ↔ a.toNat / 2 ^ 8 % 4 ≠ 3 := by omega
    have hbit : a.toNat % 2 ^ 8 < 174 ↔ a.toNat % 2 ^ 8 ≤ 173 := Nat.lt_succ_iff
    simp [wellFormed, operandError, unusedZero, operandLegal, unusedZero_a_iff,
      (messageIndexLegal_iff a).trans (and_congr_right' (and_congr hbit hslot)), and_assoc]
  | bitof a d =>
    simp [wellFormed, operandError, unusedZero, operandLegal, unusedZero_a_iff,
      checkIndexLegal_iff, and_assoc]
  | romrd a d =>
    simp [wellFormed, operandError, unusedZero, operandLegal, unusedZero_a_iff,
      romAddressLegal_iff]

/-- The commands exempt from check 2 are NOP, GCHK, RDST and ROMRD (rule R173). -/
theorem runsOnBadGraph_iff (i : Instr) :
    i.runsOnBadGraph = true ↔
      i.opcode = 0x00 ∨ i.opcode = 0x02 ∨ i.opcode = 0x20 ∨ i.opcode = 0x32 := by
  cases i <;> simp [runsOnBadGraph, opcode]

end Sys2Proof.Instr

namespace Sys2Proof.Machine

/-! ### A command behind its checks (rules R172, R173) -/

/-- The response a command gives past the common checks: OK, or DEC's ERR_INPUT (rule R170). -/
def State.RanToResponse (t : State) : Prop :=
  ∃ (rc : ResponseCode) (data : BitVec 32),
    t.response = some (responseWord rc data) ∧ (rc = .ok ∨ rc = .errInput)

theorem ranToResponse_respond_ok (s : State) (data : BitVec 32) :
    (s.respond .ok data).RanToResponse := ⟨.ok, data, rfl, .inl rfl⟩

theorem ranToResponse_refuse_input (s : State) (wrongLength nonFinite : Bool) :
    (s.refuse (.input wrongLength nonFinite)).RanToResponse := ⟨.errInput, _, rfl, .inr rfl⟩

theorem State.RanToResponse.response_ne {t : State} (h : t.RanToResponse) {rc : ResponseCode}
    (hok : rc ≠ .ok) (hinput : rc ≠ .errInput) (data : BitVec 32) :
    t.response ≠ some (responseWord rc data) := by
  obtain ⟨rc', data', hresponse, hcode⟩ := h
  rw [hresponse, ne_eq, Option.some_inj, responseWord_inj]
  rintro ⟨rfl, -⟩
  exact hcode.elim hok hinput

theorem exec_command (i : Instr) (s : State) :
    ∃ run : State → State,
      exec i s = .next (s.command i.runsOnBadGraph i.unusedZero i.operandLegal run) ∧
        (run s).RanToResponse := by
  cases i with
  | dec =>
    refine ⟨_, rfl, ?_⟩
    split
    · exact ranToResponse_refuse_input _ _ _
    · exact ranToResponse_respond_ok _ _
  | _ => exact ⟨_, rfl, ranToResponse_respond_ok _ _⟩

/-- Check 2 failed (rule R173). -/
theorem exec_graphRefused {i : Instr} {s : State} (hg : s.gfail = true)
    (hexempt : i.runsOnBadGraph = false) : exec i s = .next s.graphRefused := by
  obtain ⟨run, hexec, -⟩ := exec_command i s
  rw [hexec, hexempt, command_graphRefused hg]

/-- Check 2 passed, check 3 or 4 failed (rule R175). -/
theorem exec_operandRefused {i : Instr} {s : State}
    (hpass : s.gfail = false ∨ i.runsOnBadGraph = true) (hbad : i.wellFormed = false) :
    exec i s = .next s.operandRefused := by
  obtain ⟨run, hexec, -⟩ := exec_command i s
  rw [hexec, command_operandRefused hpass]
  rwa [Bool.eq_false_iff, ne_eq, Instr.wellFormed_iff, not_and_or, Bool.not_eq_true,
    Bool.not_eq_true] at hbad

/-- All checks passed. -/
theorem exec_runs {i : Instr} {s : State} (hpass : s.gfail = false ∨ i.runsOnBadGraph = true)
    (hwell : i.wellFormed = true) : ∃ t : State, exec i s = .next t ∧ t.RanToResponse := by
  obtain ⟨run, hexec, hran⟩ := exec_command i s
  obtain ⟨hunused, hlegal⟩ := (Instr.wellFormed_iff i).1 hwell
  rw [command_run hpass hunused hlegal] at hexec
  exact ⟨run s, hexec, hran⟩

/-! ### The two causes of ERR_INPUT (rules R101, R104) -/

theorem wrongLength_iff (s : State) : s.wrongLength = true ↔ s.llrCnt.toNat ≠ 174 := by
  rw [State.wrongLength, bne_iff_ne, ne_eq, ← BitVec.toNat_inj, BitVec.toNat_ofNat]

theorem hasNonfinite_iff (s : State) :
    s.hasNonfinite = true ↔ ∃ i, ∃ h : i < 174,
      i < s.llrCnt.toNat ∧ s.llrBuf[i].toNat / 2 ^ 23 % 256 = 255 := by
  constructor
  · intro hbad
    by_contra hnone
    push Not at hnone
    exact Bool.false_ne_true ((hasNonfinite_eq_false_of_finiteInput hnone).symm.trans hbad)
  · rintro ⟨i, hi, hcount, hexp⟩
    refine List.any_eq_true.2 ⟨s.llrBuf[i], List.mem_take_iff_getElem.2 ⟨i, ?_, ?_⟩,
      (nonfinite_iff _).2 hexp⟩
    · rw [Vector.length_toList]
      omega
    · simp

/-- DEC on a vector it refuses (rules R104, R176). -/
theorem exec_dec_refused {s : State} (hg : s.gfail = false)
    (hbad : s.wrongLength = true ∨ s.hasNonfinite = true) :
    exec (.dec 0 0) s = .next (s.inputRefused.respond .errInput s.inputRefused.status) := by
  have hor : (s.wrongLength || s.hasNonfinite) = true := Bool.or_eq_true_iff.2 hbad
  rw [exec_dec hg, State.decResult, State.decCode, if_pos hor, if_pos hor]

end Sys2Proof.Machine

end

/-! ## The obligations of `60_exceptions.md` -/

section

namespace Sys2Proof.Proofs

open Sys2Proof.Machine

/-- Settles O9. -/
theorem malformedCommandsAreRefused : Obligations.MalformedCommandsAreRefused := by
  refine fun i s => ⟨fun hbad hpass => exec_operandRefused hpass hbad, fun hwell t ht data => ?_⟩
  by_cases hpass : s.gfail = false ∨ i.runsOnBadGraph = true
  · obtain ⟨u, hexec, hran⟩ := exec_runs hpass hwell
    obtain rfl := Host.Outcome.next.inj (hexec.symm.trans ht)
    exact hran.response_ne (by decide) (by decide) data
  · rw [not_or, Bool.not_eq_false, Bool.not_eq_true] at hpass
    obtain ⟨hg, hexempt⟩ := hpass
    obtain rfl := Host.Outcome.next.inj ((exec_graphRefused hg hexempt).symm.trans ht)
    simp [State.graphRefused]

/-- Settles O10. -/
theorem badGraphRefusesWorkingCommands : Obligations.BadGraphRefusesWorkingCommands := by
  refine fun i s hg => ⟨fun hnop hgchk hrdst hromrd => exec_graphRefused hg ?_,
    fun hruns t ht data => ?_⟩
  · rw [Bool.eq_false_iff, ne_eq, Instr.runsOnBadGraph_iff]
    rintro (h | h | h | h)
    exacts [hnop h, hgchk h, hrdst h, hromrd h]
  · have hpass := (Instr.runsOnBadGraph_iff i).2 hruns
    cases hwell : i.wellFormed with
    | true =>
      obtain ⟨u, hexec, hran⟩ := exec_runs (.inr hpass) hwell
      obtain rfl := Host.Outcome.next.inj (hexec.symm.trans ht)
      exact hran.response_ne (by decide) (by decide) data
    | false =>
      obtain rfl := Host.Outcome.next.inj ((exec_operandRefused (.inr hpass) hwell).symm.trans ht)
      simp [State.operandRefused]

/-- Settles O11: the causes the statement names are those DEC finds. -/
theorem invalidInputClearsTheContext : Obligations.InvalidInputClearsTheContext := by
  intro s iil iin hg hlength hfinite hbad
  obtain rfl : iil = s.wrongLength := Bool.eq_iff_iff.2 (hlength.trans (wrongLength_iff s).symm)
  obtain rfl : iin = s.hasNonfinite := Bool.eq_iff_iff.2 (hfinite.trans (hasNonfinite_iff s).symm)
  exact ⟨s.inputRefused, rfl, exec_dec_refused hg hbad⟩

end Sys2Proof.Proofs

end
